-- ==== Sys2Proof/Word.lean ====
section
/-! DEFINITION. The two word types of the machine: bytes and addresses (00_scope.md R5, R9). -/

namespace Sys2Proof

/-- An 8-bit value: a register, a memory cell, an operand byte (R5). -/
abbrev Byte := BitVec 8

/-- A 16-bit value: an address, a register pair, the program counter (R5). -/
abbrev Addr := BitVec 16

end Sys2Proof
end

