-- ==== Sys2Proof/Config.lean ====
section
/-! DEFINITION. What one machine fixes and the rules leave open (00_scope.md R6): the open parameters as plain data, and the
three free values as uninterpreted constants. -/

namespace Sys2Proof

/-- What the platform backs an address with: the values of the open function `MemMap` (20_memory.md R73, R84). -/
inductive CellKind where
  /-- Reads and writes are admitted. -/
  | ram
  /-- Reads are admitted, a write is stuck. -/
  | rom
  /-- Nothing is admitted. -/
  | absent
  /-- A data read draws a byte from the environment, a write is an event; a fetch is stuck. -/
  | device
  deriving DecidableEq, Repr

/-- One range of addresses, both ends included, with its kind. -/
structure Region where
  first : Nat
  last : Nat
  kind : CellKind
  deriving DecidableEq, Repr

/-- The sense of C after a subtraction: the open parameter `SUB_CARRY_OUT` (10_state.md R45). -/
inductive SubCarryOut where
  /-- C is 1 on a borrow. -/
  | borrow
  /-- C is 0 on a borrow. -/
  | notBorrow
  deriving DecidableEq, Repr

/-- The open parameters of 00_scope.md R6 that are plain values. A launch supplies them and no instruction changes them; State
holds them, so that every claim over all states is a claim over all of their values (log 1). -/
structure Config where
  /-- `ABS_HIGH_FIRST`: the first operand byte of an absolute address is the high one (30_encoding.md R103; log 2). -/
  absHighFirst : Bool
  /-- `STACK_PAGE`: the high byte of every stack address (20_memory.md R75; log 3). -/
  stackPage : Byte
  /-- `STACK_HIGH_FIRST`: a 16-bit push writes the high byte first (20_memory.md R78; log 4). -/
  stackHighFirst : Bool
  /-- `SUB_CARRY_OUT` (10_state.md R45; log 5). -/
  subCarryOut : SubCarryOut
  /-- `MemMap`: the first range that holds an address decides; an address in no range is absent (20_memory.md R84; log 9). -/
  memMap : List Region
  deriving DecidableEq, Repr

/-- The configuration of `State.reset`. The two orders and `SUB_CARRY_OUT` are the spec's defaults (R6; logs 2, 4, 5).
DESIGN CHOICE (logs 3, 9): the stack page, and a map that backs every address with ram, are the model's. -/
def Config.launch : Config :=
  { absHighFirst := true
    stackPage := 0x01#8
    stackHighFirst := true
    subCarryOut := .borrow
    memMap := [{ first := 0, last := 0xFFFF, kind := .ram }] }

/-- `RESET_PC` of `State.reset` (00_scope.md R6 leaves it open). DESIGN CHOICE (log 8). -/
def Config.resetPc : Addr := 0x0000#16

/-- The operations whose carry the rules leave open (10_state.md R46). -/
inductive LogicOp where
  | and
  | or
  | xor
  | not
  deriving DecidableEq, Repr

/-- `logic_carry(op, a, b, cin)`: the value of C after a logic operation, a bit that depends on its four arguments and on
nothing else, uninterpreted (10_state.md R46; log 6). -/
opaque Config.logicCarry : LogicOp → Byte → Byte → Bool → Bool

/-- `i_raise` at boundary number `k` of a run, where the state does not list the draw itself (00_scope.md R6, 10_state.md R48;
log 7). A free value: an endless sequence of draws of which nothing is known. -/
opaque Config.iRaise : (k : Nat) → Bool

/-- The byte the environment gives to the device read number `k` when it is a read of address `a` (20_memory.md R73; log 18).
A free value: nothing is known of it. -/
opaque Config.deviceByte : (k : Nat) → (a : Addr) → Byte

end Sys2Proof
end

