-- ==== Sys2Proof/Syntax.lean ====
section
/-! DEFINITION. The instructions: `Instr`, one constructor per row of the opcode table (280), and `Form`, the same instruction
as family, fields and operands (30_encoding.md R109). Operand bytes stand as they lie in memory (log 29). -/

namespace Sys2Proof

/-- The decode mode of an opcode byte (30_encoding.md R107). -/
inductive Mode where
  | base
  | ext
  deriving DecidableEq, Repr

/-- The 8-bit registers, in the order of their numbers 0 to 7 (10_state.md R30). -/
inductive Reg where
  | xh
  | xl
  | yh
  | yl
  | h
  | l
  | acc
  | sp
  deriving DecidableEq, Repr

/-- The register pairs, in the order of their indices 0 to 2 (10_state.md R34, 30_encoding.md R109). -/
inductive Pair where
  | xhl
  | yhl
  | hl
  deriving DecidableEq, Repr

/-- The condition rows 0 to 7 (10_state.md R52). -/
inductive Cond where
  | u
  | c
  | n
  | z
  | nc
  | nn
  | nz
  | i
  deriving DecidableEq, Repr

/-- The machine-control rows 0 to 7 of block 0, column 0 (40_machine_control.md R140). -/
inductive Control where
  | nin
  | clc
  | cln
  | clz
  | cli
  | clf
  | ext
  | hlt
  deriving DecidableEq, Repr

/-- The accumulator operations, rows 0 to 6 of block 0, column 7 (43_accumulator_ops.md R230). -/
inductive AccOp where
  | inc
  | dec
  | ror
  | rol
  | rsh
  | lsh
  | not
  deriving DecidableEq, Repr

/-- The arithmetic and logic operations, rows 0 to 7 of block 1 and of extended columns 0 and 1 (44_arithmetic.md R250). -/
inductive AluOp where
  | add
  | adc
  | sub
  | sbb
  | cmp
  | and
  | or
  | xor
  deriving DecidableEq, Repr

/-- A memory operand: absolute (its two operand bytes in memory order), zero page, or through a pair (20_memory.md R72). -/
inductive Place where
  | abs (b1 b2 : Byte)
  | zp (zz : Byte)
  | ind (p : Pair)
  deriving DecidableEq, Repr

/-- Where a byte operand comes from (44_arithmetic.md R250, 46_load_store.md R340). -/
inductive Source where
  | mem (p : Place)
  | imm (nn : Byte)
  | reg (r : Reg)
  deriving DecidableEq, Repr

/-- An instruction as family, fields and operands. `mov s d` and `movPair s d` name the source first, as the assembly does
(30_encoding.md R121). Not every form is listed: `Form.wf` says which are. -/
inductive Form where
  | control (k : Control)
  | jmp (k : Cond) (b1 b2 : Byte)
  | jsr (k : Cond) (b1 b2 : Byte)
  | rtn (k : Cond)
  | psh (r : Reg)
  | pop (r : Reg)
  | incPair (p : Pair)
  | decPair (p : Pair)
  | accOp (o : AccOp)
  | alu (op : AluOp) (src : Source)
  | ld (r : Reg) (src : Source)
  | str (r : Reg) (dst : Place)
  | mov (s d : Reg)
  | movPair (s d : Pair)
  | pshPair (p : Pair)
  | popPair (p : Pair)
  | pshPc
  | popPc
  deriving DecidableEq, Repr

/-- The 280 instructions of the opcode table, in its order; the assembly text of each row and its rule stand beside it.
`b1 b2` are the two operand bytes of format F3 at `pc + 1` and `pc + 2`, `zz` and `nn` the one of F2Z and F2N (R102). -/
inductive Instr where
  /-- `NIN` (R141) -/
  | nin
  /-- `CLC` (R142) -/
  | clc
  /-- `CLN` (R143) -/
  | cln
  /-- `CLZ` (R144) -/
  | clz
  /-- `CLI` (R145) -/
  | cli
  /-- `CLF` (R146) -/
  | clf
  /-- `EXT` (R147) -/
  | ext
  /-- `HLT` (R148) -/
  | hlt
  /-- `JMP u, $hhll` (R162) -/
  | jmpU (b1 b2 : Byte)
  /-- `JMP c, $hhll` (R163) -/
  | jmpC (b1 b2 : Byte)
  /-- `JMP n, $hhll` (R164) -/
  | jmpN (b1 b2 : Byte)
  /-- `JMP z, $hhll` (R165) -/
  | jmpZ (b1 b2 : Byte)
  /-- `JMP nc, $hhll` (R166) -/
  | jmpNc (b1 b2 : Byte)
  /-- `JMP nn, $hhll` (R167) -/
  | jmpNn (b1 b2 : Byte)
  /-- `JMP nz, $hhll` (R168) -/
  | jmpNz (b1 b2 : Byte)
  /-- `JMP i, $hhll` (R169) -/
  | jmpI (b1 b2 : Byte)
  /-- `JSR u, $hhll` (R170) -/
  | jsrU (b1 b2 : Byte)
  /-- `JSR c, $hhll` (R171) -/
  | jsrC (b1 b2 : Byte)
  /-- `JSR n, $hhll` (R172) -/
  | jsrN (b1 b2 : Byte)
  /-- `JSR z, $hhll` (R173) -/
  | jsrZ (b1 b2 : Byte)
  /-- `JSR nc, $hhll` (R174) -/
  | jsrNc (b1 b2 : Byte)
  /-- `JSR nn, $hhll` (R175) -/
  | jsrNn (b1 b2 : Byte)
  /-- `JSR nz, $hhll` (R176) -/
  | jsrNz (b1 b2 : Byte)
  /-- `JSR i, $hhll` (R177) -/
  | jsrI (b1 b2 : Byte)
  /-- `RTN u` (R178) -/
  | rtnU
  /-- `RTN c` (R179) -/
  | rtnC
  /-- `RTN n` (R180) -/
  | rtnN
  /-- `RTN z` (R181) -/
  | rtnZ
  /-- `RTN nc` (R182) -/
  | rtnNc
  /-- `RTN nn` (R183) -/
  | rtnNn
  /-- `RTN nz` (R184) -/
  | rtnNz
  /-- `PSH Xh` (R202) -/
  | pshXh
  /-- `PSH Xl` (R203) -/
  | pshXl
  /-- `PSH Yh` (R204) -/
  | pshYh
  /-- `PSH Yl` (R205) -/
  | pshYl
  /-- `PSH H` (R206) -/
  | pshH
  /-- `PSH L` (R207) -/
  | pshL
  /-- `PSH Acc` (R208) -/
  | pshAcc
  /-- `POP Xh` (R209) -/
  | popXh
  /-- `POP Xl` (R210) -/
  | popXl
  /-- `POP Yh` (R211) -/
  | popYh
  /-- `POP Yl` (R212) -/
  | popYl
  /-- `POP H` (R213) -/
  | popH
  /-- `POP L` (R214) -/
  | popL
  /-- `POP Acc` (R215) -/
  | popAcc
  /-- `INC Xhl` (R216) -/
  | incXhl
  /-- `INC Yhl` (R217) -/
  | incYhl
  /-- `INC HL` (R218) -/
  | incHl
  /-- `DEC Xhl` (R219) -/
  | decXhl
  /-- `DEC Yhl` (R220) -/
  | decYhl
  /-- `DEC HL` (R221) -/
  | decHl
  /-- `INC` (R231) -/
  | incAcc
  /-- `DEC` (R232) -/
  | decAcc
  /-- `ROR` (R233) -/
  | rorAcc
  /-- `ROL` (R234) -/
  | rolAcc
  /-- `RSH` (R235) -/
  | rshAcc
  /-- `LSH` (R236) -/
  | lshAcc
  /-- `NOT` (R237) -/
  | notAcc
  /-- `ADD $hhll` (R252) -/
  | addAbs (b1 b2 : Byte)
  /-- `ADD $zz` (R253) -/
  | addZp (zz : Byte)
  /-- `ADD (HL)` (R254) -/
  | addHl
  /-- `ADD #$nn` (R255) -/
  | addImm (nn : Byte)
  /-- `ADD Xh` (R256) -/
  | addXh
  /-- `ADD Xl` (R257) -/
  | addXl
  /-- `ADD Yh` (R258) -/
  | addYh
  /-- `ADD Yl` (R259) -/
  | addYl
  /-- `ADC $hhll` (R260) -/
  | adcAbs (b1 b2 : Byte)
  /-- `ADC $zz` (R261) -/
  | adcZp (zz : Byte)
  /-- `ADC (HL)` (R262) -/
  | adcHl
  /-- `ADC #$nn` (R263) -/
  | adcImm (nn : Byte)
  /-- `ADC Xh` (R264) -/
  | adcXh
  /-- `ADC Xl` (R265) -/
  | adcXl
  /-- `ADC Yh` (R266) -/
  | adcYh
  /-- `ADC Yl` (R267) -/
  | adcYl
  /-- `SUB $hhll` (R268) -/
  | subAbs (b1 b2 : Byte)
  /-- `SUB $zz` (R269) -/
  | subZp (zz : Byte)
  /-- `SUB (HL)` (R270) -/
  | subHl
  /-- `SUB #$nn` (R271) -/
  | subImm (nn : Byte)
  /-- `SUB Xh` (R272) -/
  | subXh
  /-- `SUB Xl` (R273) -/
  | subXl
  /-- `SUB Yh` (R274) -/
  | subYh
  /-- `SUB Yl` (R275) -/
  | subYl
  /-- `SBB $hhll` (R276) -/
  | sbbAbs (b1 b2 : Byte)
  /-- `SBB $zz` (R277) -/
  | sbbZp (zz : Byte)
  /-- `SBB (HL)` (R278) -/
  | sbbHl
  /-- `SBB #$nn` (R279) -/
  | sbbImm (nn : Byte)
  /-- `SBB Xh` (R280) -/
  | sbbXh
  /-- `SBB Xl` (R281) -/
  | sbbXl
  /-- `SBB Yh` (R282) -/
  | sbbYh
  /-- `SBB Yl` (R283) -/
  | sbbYl
  /-- `CMP $hhll` (R284) -/
  | cmpAbs (b1 b2 : Byte)
  /-- `CMP $zz` (R285) -/
  | cmpZp (zz : Byte)
  /-- `CMP (HL)` (R286) -/
  | cmpHl
  /-- `CMP #$nn` (R287) -/
  | cmpImm (nn : Byte)
  /-- `CMP Xh` (R288) -/
  | cmpXh
  /-- `CMP Xl` (R289) -/
  | cmpXl
  /-- `CMP Yh` (R290) -/
  | cmpYh
  /-- `CMP Yl` (R291) -/
  | cmpYl
  /-- `AND $hhll` (R311) -/
  | andAbs (b1 b2 : Byte)
  /-- `AND $zz` (R312) -/
  | andZp (zz : Byte)
  /-- `AND (HL)` (R313) -/
  | andHl
  /-- `AND #$nn` (R314) -/
  | andImm (nn : Byte)
  /-- `AND Xh` (R315) -/
  | andXh
  /-- `AND Xl` (R316) -/
  | andXl
  /-- `AND Yh` (R317) -/
  | andYh
  /-- `AND Yl` (R318) -/
  | andYl
  /-- `OR $hhll` (R319) -/
  | orAbs (b1 b2 : Byte)
  /-- `OR $zz` (R320) -/
  | orZp (zz : Byte)
  /-- `OR (HL)` (R321) -/
  | orHl
  /-- `OR #$nn` (R322) -/
  | orImm (nn : Byte)
  /-- `OR Xh` (R323) -/
  | orXh
  /-- `OR Xl` (R324) -/
  | orXl
  /-- `OR Yh` (R325) -/
  | orYh
  /-- `OR Yl` (R326) -/
  | orYl
  /-- `XOR $hhll` (R327) -/
  | xorAbs (b1 b2 : Byte)
  /-- `XOR $zz` (R328) -/
  | xorZp (zz : Byte)
  /-- `XOR (HL)` (R329) -/
  | xorHl
  /-- `XOR #$nn` (R330) -/
  | xorImm (nn : Byte)
  /-- `XOR Xh` (R331) -/
  | xorXh
  /-- `XOR Xl` (R332) -/
  | xorXl
  /-- `XOR Yh` (R333) -/
  | xorYh
  /-- `XOR Yl` (R334) -/
  | xorYl
  /-- `LD Xh, $hhll` (R342) -/
  | ldXhAbs (b1 b2 : Byte)
  /-- `LD Xh, $zz` (R343) -/
  | ldXhZp (zz : Byte)
  /-- `LD Xh, (HL)` (R344) -/
  | ldXhHl
  /-- `LD Xh, #$nn` (R345) -/
  | ldXhImm (nn : Byte)
  /-- `LD Xl, $hhll` (R346) -/
  | ldXlAbs (b1 b2 : Byte)
  /-- `LD Xl, $zz` (R347) -/
  | ldXlZp (zz : Byte)
  /-- `LD Xl, (HL)` (R348) -/
  | ldXlHl
  /-- `LD Xl, #$nn` (R349) -/
  | ldXlImm (nn : Byte)
  /-- `LD Yh, $hhll` (R350) -/
  | ldYhAbs (b1 b2 : Byte)
  /-- `LD Yh, $zz` (R351) -/
  | ldYhZp (zz : Byte)
  /-- `LD Yh, (HL)` (R352) -/
  | ldYhHl
  /-- `LD Yh, #$nn` (R353) -/
  | ldYhImm (nn : Byte)
  /-- `LD Yl, $hhll` (R354) -/
  | ldYlAbs (b1 b2 : Byte)
  /-- `LD Yl, $zz` (R355) -/
  | ldYlZp (zz : Byte)
  /-- `LD Yl, (HL)` (R356) -/
  | ldYlHl
  /-- `LD Yl, #$nn` (R357) -/
  | ldYlImm (nn : Byte)
  /-- `LD H, $hhll` (R358) -/
  | ldHAbs (b1 b2 : Byte)
  /-- `LD H, $zz` (R359) -/
  | ldHZp (zz : Byte)
  /-- `LD H, #$nn` (R360) -/
  | ldHImm (nn : Byte)
  /-- `LD L, $hhll` (R361) -/
  | ldLAbs (b1 b2 : Byte)
  /-- `LD L, $zz` (R362) -/
  | ldLZp (zz : Byte)
  /-- `LD L, #$nn` (R363) -/
  | ldLImm (nn : Byte)
  /-- `LD Acc, $hhll` (R364) -/
  | ldAccAbs (b1 b2 : Byte)
  /-- `LD Acc, $zz` (R365) -/
  | ldAccZp (zz : Byte)
  /-- `LD Acc, (HL)` (R366) -/
  | ldAccHl
  /-- `LD Acc, #$nn` (R367) -/
  | ldAccImm (nn : Byte)
  /-- `LD SP, $hhll` (R368) -/
  | ldSpAbs (b1 b2 : Byte)
  /-- `LD SP, $zz` (R369) -/
  | ldSpZp (zz : Byte)
  /-- `LD SP, (HL)` (R370) -/
  | ldSpHl
  /-- `LD SP, #$nn` (R371) -/
  | ldSpImm (nn : Byte)
  /-- `STR Xh, $hhll` (R372) -/
  | strXhAbs (b1 b2 : Byte)
  /-- `STR Xh, $zz` (R373) -/
  | strXhZp (zz : Byte)
  /-- `STR Xh, (HL)` (R374) -/
  | strXhHl
  /-- `STR Xl, $hhll` (R375) -/
  | strXlAbs (b1 b2 : Byte)
  /-- `STR Xl, $zz` (R376) -/
  | strXlZp (zz : Byte)
  /-- `STR Xl, (HL)` (R377) -/
  | strXlHl
  /-- `STR Yh, $hhll` (R378) -/
  | strYhAbs (b1 b2 : Byte)
  /-- `STR Yh, $zz` (R379) -/
  | strYhZp (zz : Byte)
  /-- `STR Yh, (HL)` (R380) -/
  | strYhHl
  /-- `STR Yl, $hhll` (R381) -/
  | strYlAbs (b1 b2 : Byte)
  /-- `STR Yl, $zz` (R382) -/
  | strYlZp (zz : Byte)
  /-- `STR Yl, (HL)` (R383) -/
  | strYlHl
  /-- `STR H, $hhll` (R384) -/
  | strHAbs (b1 b2 : Byte)
  /-- `STR H, $zz` (R385) -/
  | strHZp (zz : Byte)
  /-- `STR L, $hhll` (R386) -/
  | strLAbs (b1 b2 : Byte)
  /-- `STR L, $zz` (R387) -/
  | strLZp (zz : Byte)
  /-- `STR Acc, $hhll` (R388) -/
  | strAccAbs (b1 b2 : Byte)
  /-- `STR Acc, $zz` (R389) -/
  | strAccZp (zz : Byte)
  /-- `STR Acc, (HL)` (R390) -/
  | strAccHl
  /-- `STR SP, $hhll` (R391) -/
  | strSpAbs (b1 b2 : Byte)
  /-- `STR SP, $zz` (R392) -/
  | strSpZp (zz : Byte)
  /-- `STR SP, (HL)` (R393) -/
  | strSpHl
  /-- `MOV Xh, Xl` (R401) -/
  | movXhXl
  /-- `MOV Xh, Yh` (R402) -/
  | movXhYh
  /-- `MOV Xh, Yl` (R403) -/
  | movXhYl
  /-- `MOV Xh, H` (R404) -/
  | movXhH
  /-- `MOV Xh, L` (R405) -/
  | movXhL
  /-- `MOV Xh, Acc` (R406) -/
  | movXhAcc
  /-- `MOV Xh, SP` (R407) -/
  | movXhSp
  /-- `MOV Xl, Xh` (R408) -/
  | movXlXh
  /-- `MOV Xl, Yh` (R409) -/
  | movXlYh
  /-- `MOV Xl, Yl` (R410) -/
  | movXlYl
  /-- `MOV Xl, H` (R411) -/
  | movXlH
  /-- `MOV Xl, L` (R412) -/
  | movXlL
  /-- `MOV Xl, Acc` (R413) -/
  | movXlAcc
  /-- `MOV Xl, SP` (R414) -/
  | movXlSp
  /-- `MOV Yh, Xh` (R415) -/
  | movYhXh
  /-- `MOV Yh, Xl` (R416) -/
  | movYhXl
  /-- `MOV Yh, Yl` (R417) -/
  | movYhYl
  /-- `MOV Yh, H` (R418) -/
  | movYhH
  /-- `MOV Yh, L` (R419) -/
  | movYhL
  /-- `MOV Yh, Acc` (R420) -/
  | movYhAcc
  /-- `MOV Yh, SP` (R421) -/
  | movYhSp
  /-- `MOV Yl, Xh` (R422) -/
  | movYlXh
  /-- `MOV Yl, Xl` (R423) -/
  | movYlXl
  /-- `MOV Yl, Yh` (R424) -/
  | movYlYh
  /-- `MOV Yl, H` (R425) -/
  | movYlH
  /-- `MOV Yl, L` (R426) -/
  | movYlL
  /-- `MOV Yl, Acc` (R427) -/
  | movYlAcc
  /-- `MOV Yl, SP` (R428) -/
  | movYlSp
  /-- `MOV H, Xh` (R429) -/
  | movHXh
  /-- `MOV H, Xl` (R430) -/
  | movHXl
  /-- `MOV H, Yh` (R431) -/
  | movHYh
  /-- `MOV H, Yl` (R432) -/
  | movHYl
  /-- `MOV H, L` (R433) -/
  | movHL
  /-- `MOV H, Acc` (R434) -/
  | movHAcc
  /-- `MOV H, SP` (R435) -/
  | movHSp
  /-- `MOV L, Xh` (R436) -/
  | movLXh
  /-- `MOV L, Xl` (R437) -/
  | movLXl
  /-- `MOV L, Yh` (R438) -/
  | movLYh
  /-- `MOV L, Yl` (R439) -/
  | movLYl
  /-- `MOV L, H` (R440) -/
  | movLH
  /-- `MOV L, Acc` (R441) -/
  | movLAcc
  /-- `MOV L, SP` (R442) -/
  | movLSp
  /-- `MOV Acc, Xh` (R443) -/
  | movAccXh
  /-- `MOV Acc, Xl` (R444) -/
  | movAccXl
  /-- `MOV Acc, Yh` (R445) -/
  | movAccYh
  /-- `MOV Acc, Yl` (R446) -/
  | movAccYl
  /-- `MOV Acc, H` (R447) -/
  | movAccH
  /-- `MOV Acc, L` (R448) -/
  | movAccL
  /-- `MOV Acc, SP` (R449) -/
  | movAccSp
  /-- `MOV SP, Xh` (R450) -/
  | movSpXh
  /-- `MOV SP, Xl` (R451) -/
  | movSpXl
  /-- `MOV SP, Yh` (R452) -/
  | movSpYh
  /-- `MOV SP, Yl` (R453) -/
  | movSpYl
  /-- `MOV SP, H` (R454) -/
  | movSpH
  /-- `MOV SP, L` (R455) -/
  | movSpL
  /-- `MOV SP, Acc` (R456) -/
  | movSpAcc
  /-- `ADD (Xhl)` after `EXT` (R462) -/
  | extAddXhl
  /-- `ADD (Yhl)` after `EXT` (R463) -/
  | extAddYhl
  /-- `ADC (Xhl)` after `EXT` (R464) -/
  | extAdcXhl
  /-- `ADC (Yhl)` after `EXT` (R465) -/
  | extAdcYhl
  /-- `SUB (Xhl)` after `EXT` (R466) -/
  | extSubXhl
  /-- `SUB (Yhl)` after `EXT` (R467) -/
  | extSubYhl
  /-- `SBB (Xhl)` after `EXT` (R468) -/
  | extSbbXhl
  /-- `SBB (Yhl)` after `EXT` (R469) -/
  | extSbbYhl
  /-- `CMP (Xhl)` after `EXT` (R470) -/
  | extCmpXhl
  /-- `CMP (Yhl)` after `EXT` (R471) -/
  | extCmpYhl
  /-- `AND (Xhl)` after `EXT` (R472) -/
  | extAndXhl
  /-- `AND (Yhl)` after `EXT` (R473) -/
  | extAndYhl
  /-- `OR (Xhl)` after `EXT` (R474) -/
  | extOrXhl
  /-- `OR (Yhl)` after `EXT` (R475) -/
  | extOrYhl
  /-- `XOR (Xhl)` after `EXT` (R476) -/
  | extXorXhl
  /-- `XOR (Yhl)` after `EXT` (R477) -/
  | extXorYhl
  /-- `LD Xh, (Yhl)` after `EXT` (R478) -/
  | extLdXhYhl
  /-- `LD Xl, (Yhl)` after `EXT` (R479) -/
  | extLdXlYhl
  /-- `LD Yh, (Xhl)` after `EXT` (R480) -/
  | extLdYhXhl
  /-- `LD Yl, (Xhl)` after `EXT` (R481) -/
  | extLdYlXhl
  /-- `LD H, (Xhl)` after `EXT` (R482) -/
  | extLdHXhl
  /-- `LD H, (Yhl)` after `EXT` (R483) -/
  | extLdHYhl
  /-- `LD L, (Xhl)` after `EXT` (R484) -/
  | extLdLXhl
  /-- `LD L, (Yhl)` after `EXT` (R485) -/
  | extLdLYhl
  /-- `LD Acc, (Xhl)` after `EXT` (R486) -/
  | extLdAccXhl
  /-- `LD Acc, (Yhl)` after `EXT` (R487) -/
  | extLdAccYhl
  /-- `STR Xh, (Yhl)` after `EXT` (R488) -/
  | extStrXhYhl
  /-- `STR Xl, (Yhl)` after `EXT` (R489) -/
  | extStrXlYhl
  /-- `STR Yh, (Xhl)` after `EXT` (R490) -/
  | extStrYhXhl
  /-- `STR Yl, (Xhl)` after `EXT` (R491) -/
  | extStrYlXhl
  /-- `STR H, (Xhl)` after `EXT` (R492) -/
  | extStrHXhl
  /-- `STR H, (Yhl)` after `EXT` (R493) -/
  | extStrHYhl
  /-- `STR L, (Xhl)` after `EXT` (R494) -/
  | extStrLXhl
  /-- `STR L, (Yhl)` after `EXT` (R495) -/
  | extStrLYhl
  /-- `STR Acc, (Xhl)` after `EXT` (R496) -/
  | extStrAccXhl
  /-- `STR Acc, (Yhl)` after `EXT` (R497) -/
  | extStrAccYhl
  /-- `MOV Xhl, Yhl` after `EXT` (R501) -/
  | extMovXhlYhl
  /-- `MOV Xhl, HL` after `EXT` (R502) -/
  | extMovXhlHl
  /-- `MOV Yhl, Xhl` after `EXT` (R503) -/
  | extMovYhlXhl
  /-- `MOV Yhl, HL` after `EXT` (R504) -/
  | extMovYhlHl
  /-- `MOV HL, Xhl` after `EXT` (R505) -/
  | extMovHlXhl
  /-- `MOV HL, Yhl` after `EXT` (R506) -/
  | extMovHlYhl
  /-- `PSH Xhl` after `EXT` (R507) -/
  | extPshXhl
  /-- `PSH Yhl` after `EXT` (R508) -/
  | extPshYhl
  /-- `PSH HL` after `EXT` (R509) -/
  | extPshHl
  /-- `PSH PC` after `EXT` (R510) -/
  | extPshPc
  /-- `POP Xhl` after `EXT` (R511) -/
  | extPopXhl
  /-- `POP Yhl` after `EXT` (R512) -/
  | extPopYhl
  /-- `POP HL` after `EXT` (R513) -/
  | extPopHl
  /-- `POP PC` after `EXT` (R514) -/
  | extPopPc
  deriving DecidableEq, Repr

end Sys2Proof
end

