-- ==== Sys2Proof/WellFormed.lean ====
section
/-! DEFINITION. Which forms are listed encodings (30_encoding.md R110 to R116), and which memory maps make sense. -/

namespace Sys2Proof

/-- A register that is half of the pair: a half is never loaded or stored through its own pair (R115, R461). -/
def Pair.holds (p : Pair) (r : Reg) : Bool :=
  match p with
  | .xhl => r == .xh || r == .xl
  | .yhl => r == .yh || r == .yl
  | .hl => r == .h || r == .l

/-- The registers a place of block 2, or of the extended loads and stores, is listed with (R340, R341, R461): through HL every
register but H and L, through Xhl and Yhl every register but SP and the pair's own halves. -/
def Place.listedWith (p : Place) (r : Reg) : Bool :=
  match p with
  | .abs _ _ => true
  | .zp _ => true
  | .ind .hl => !Pair.holds .hl r
  | .ind q => !Pair.holds q r && r != .sp

/-- A form that has a row in the opcode table (R115 and R116 name the ones that have none). -/
def Form.wf : Form → Bool
  | .control _ => true
  | .jmp _ _ _ => true
  | .jsr _ _ _ => true
  | .rtn k => k != .i
  | .psh r => r != .sp
  | .pop r => r != .sp
  | .incPair _ => true
  | .decPair _ => true
  | .accOp _ => true
  | .alu _ (.reg r) => r == .xh || r == .xl || r == .yh || r == .yl
  | .alu _ _ => true
  | .ld r (.mem p) => p.listedWith r
  | .ld _ (.imm _) => true
  | .ld _ (.reg _) => false
  | .str r p => p.listedWith r
  | .mov s d => s != d
  | .movPair s d => s != d
  | .pshPair _ => true
  | .popPair _ => true
  | .pshPc => true
  | .popPc => true

/-- A range of the memory map: not empty, and inside the 2^16 addresses (20_memory.md R70). -/
def Region.wf (r : Region) : Bool := decide (r.first ≤ r.last) && decide (r.last < 65536)

/-- Every range of the configuration's memory map is in order. -/
def Config.wf (c : Config) : Bool := c.memMap.all Region.wf

end Sys2Proof
end

