-- ==== Sys2Proof/Decode.lean ====
section
/-! DEFINITION. The decoder, written from the opcode matrices of 30_encoding.md R110 to R114, and after it the encoder, written
from the fields of R101, R106 and R109. `decodeTableWord` is the decoder on a word of the opcode table. -/

namespace Sys2Proof

/-- A cell of an opcode matrix: unlisted, or the instruction its byte is, given 0, 1 or 2 operand bytes (R102). -/
inductive Entry where
  | unlisted
  | f1 (i : Instr)
  | f2 (mk : Byte → Instr)
  | f3 (mk : Byte → Byte → Instr)

/-- Base map, block 0 row 0. -/
def block0Row0 : List Entry :=
  [.f1 .nin, .f3 .jmpU, .f3 .jsrU, .f1 .rtnU,
    .f1 .pshXh, .f1 .popXh, .f1 .incXhl, .f1 .incAcc]

/-- Base map, block 0 row 1. -/
def block0Row1 : List Entry :=
  [.f1 .clc, .f3 .jmpC, .f3 .jsrC, .f1 .rtnC,
    .f1 .pshXl, .f1 .popXl, .f1 .decXhl, .f1 .decAcc]

/-- Base map, block 0 row 2. -/
def block0Row2 : List Entry :=
  [.f1 .cln, .f3 .jmpN, .f3 .jsrN, .f1 .rtnN,
    .f1 .pshYh, .f1 .popYh, .f1 .incYhl, .f1 .rorAcc]

/-- Base map, block 0 row 3. -/
def block0Row3 : List Entry :=
  [.f1 .clz, .f3 .jmpZ, .f3 .jsrZ, .f1 .rtnZ,
    .f1 .pshYl, .f1 .popYl, .f1 .decYhl, .f1 .rolAcc]

/-- Base map, block 0 row 4. -/
def block0Row4 : List Entry :=
  [.f1 .cli, .f3 .jmpNc, .f3 .jsrNc, .f1 .rtnNc,
    .f1 .pshH, .f1 .popH, .f1 .incHl, .f1 .rshAcc]

/-- Base map, block 0 row 5. -/
def block0Row5 : List Entry :=
  [.f1 .clf, .f3 .jmpNn, .f3 .jsrNn, .f1 .rtnNn,
    .f1 .pshL, .f1 .popL, .f1 .decHl, .f1 .lshAcc]

/-- Base map, block 0 row 6. -/
def block0Row6 : List Entry :=
  [.f1 .ext, .f3 .jmpNz, .f3 .jsrNz, .f1 .rtnNz,
    .f1 .pshAcc, .f1 .popAcc, .unlisted, .f1 .notAcc]

/-- Base map, block 0 row 7. -/
def block0Row7 : List Entry :=
  [.f1 .hlt, .f3 .jmpI, .f3 .jsrI, .unlisted,
    .unlisted, .unlisted, .unlisted, .unlisted]

/-- Base map, block 0 (R110). -/
def block0 : List (List Entry) :=
  [block0Row0, block0Row1, block0Row2, block0Row3, block0Row4, block0Row5, block0Row6, block0Row7]

/-- Base map, block 1 row 0. -/
def block1Row0 : List Entry :=
  [.f3 .addAbs, .f2 .addZp, .f1 .addHl, .f2 .addImm,
    .f1 .addXh, .f1 .addXl, .f1 .addYh, .f1 .addYl]

/-- Base map, block 1 row 1. -/
def block1Row1 : List Entry :=
  [.f3 .adcAbs, .f2 .adcZp, .f1 .adcHl, .f2 .adcImm,
    .f1 .adcXh, .f1 .adcXl, .f1 .adcYh, .f1 .adcYl]

/-- Base map, block 1 row 2. -/
def block1Row2 : List Entry :=
  [.f3 .subAbs, .f2 .subZp, .f1 .subHl, .f2 .subImm,
    .f1 .subXh, .f1 .subXl, .f1 .subYh, .f1 .subYl]

/-- Base map, block 1 row 3. -/
def block1Row3 : List Entry :=
  [.f3 .sbbAbs, .f2 .sbbZp, .f1 .sbbHl, .f2 .sbbImm,
    .f1 .sbbXh, .f1 .sbbXl, .f1 .sbbYh, .f1 .sbbYl]

/-- Base map, block 1 row 4. -/
def block1Row4 : List Entry :=
  [.f3 .cmpAbs, .f2 .cmpZp, .f1 .cmpHl, .f2 .cmpImm,
    .f1 .cmpXh, .f1 .cmpXl, .f1 .cmpYh, .f1 .cmpYl]

/-- Base map, block 1 row 5. -/
def block1Row5 : List Entry :=
  [.f3 .andAbs, .f2 .andZp, .f1 .andHl, .f2 .andImm,
    .f1 .andXh, .f1 .andXl, .f1 .andYh, .f1 .andYl]

/-- Base map, block 1 row 6. -/
def block1Row6 : List Entry :=
  [.f3 .orAbs, .f2 .orZp, .f1 .orHl, .f2 .orImm,
    .f1 .orXh, .f1 .orXl, .f1 .orYh, .f1 .orYl]

/-- Base map, block 1 row 7. -/
def block1Row7 : List Entry :=
  [.f3 .xorAbs, .f2 .xorZp, .f1 .xorHl, .f2 .xorImm,
    .f1 .xorXh, .f1 .xorXl, .f1 .xorYh, .f1 .xorYl]

/-- Base map, block 1 (R111). -/
def block1 : List (List Entry) :=
  [block1Row0, block1Row1, block1Row2, block1Row3, block1Row4, block1Row5, block1Row6, block1Row7]

/-- Base map, block 2 row 0. -/
def block2Row0 : List Entry :=
  [.f3 .ldXhAbs, .f2 .ldXhZp, .f1 .ldXhHl, .f2 .ldXhImm,
    .f3 .strXhAbs, .f2 .strXhZp, .f1 .strXhHl, .unlisted]

/-- Base map, block 2 row 1. -/
def block2Row1 : List Entry :=
  [.f3 .ldXlAbs, .f2 .ldXlZp, .f1 .ldXlHl, .f2 .ldXlImm,
    .f3 .strXlAbs, .f2 .strXlZp, .f1 .strXlHl, .unlisted]

/-- Base map, block 2 row 2. -/
def block2Row2 : List Entry :=
  [.f3 .ldYhAbs, .f2 .ldYhZp, .f1 .ldYhHl, .f2 .ldYhImm,
    .f3 .strYhAbs, .f2 .strYhZp, .f1 .strYhHl, .unlisted]

/-- Base map, block 2 row 3. -/
def block2Row3 : List Entry :=
  [.f3 .ldYlAbs, .f2 .ldYlZp, .f1 .ldYlHl, .f2 .ldYlImm,
    .f3 .strYlAbs, .f2 .strYlZp, .f1 .strYlHl, .unlisted]

/-- Base map, block 2 row 4. -/
def block2Row4 : List Entry :=
  [.f3 .ldHAbs, .f2 .ldHZp, .unlisted, .f2 .ldHImm,
    .f3 .strHAbs, .f2 .strHZp, .unlisted, .unlisted]

/-- Base map, block 2 row 5. -/
def block2Row5 : List Entry :=
  [.f3 .ldLAbs, .f2 .ldLZp, .unlisted, .f2 .ldLImm,
    .f3 .strLAbs, .f2 .strLZp, .unlisted, .unlisted]

/-- Base map, block 2 row 6. -/
def block2Row6 : List Entry :=
  [.f3 .ldAccAbs, .f2 .ldAccZp, .f1 .ldAccHl, .f2 .ldAccImm,
    .f3 .strAccAbs, .f2 .strAccZp, .f1 .strAccHl, .unlisted]

/-- Base map, block 2 row 7. -/
def block2Row7 : List Entry :=
  [.f3 .ldSpAbs, .f2 .ldSpZp, .f1 .ldSpHl, .f2 .ldSpImm,
    .f3 .strSpAbs, .f2 .strSpZp, .f1 .strSpHl, .unlisted]

/-- Base map, block 2 (R112). -/
def block2 : List (List Entry) :=
  [block2Row0, block2Row1, block2Row2, block2Row3, block2Row4, block2Row5, block2Row6, block2Row7]

/-- Base map, block 3 row 0. -/
def block3Row0 : List Entry :=
  [.unlisted, .f1 .movXlXh, .f1 .movYhXh, .f1 .movYlXh,
    .f1 .movHXh, .f1 .movLXh, .f1 .movAccXh, .f1 .movSpXh]

/-- Base map, block 3 row 1. -/
def block3Row1 : List Entry :=
  [.f1 .movXhXl, .unlisted, .f1 .movYhXl, .f1 .movYlXl,
    .f1 .movHXl, .f1 .movLXl, .f1 .movAccXl, .f1 .movSpXl]

/-- Base map, block 3 row 2. -/
def block3Row2 : List Entry :=
  [.f1 .movXhYh, .f1 .movXlYh, .unlisted, .f1 .movYlYh,
    .f1 .movHYh, .f1 .movLYh, .f1 .movAccYh, .f1 .movSpYh]

/-- Base map, block 3 row 3. -/
def block3Row3 : List Entry :=
  [.f1 .movXhYl, .f1 .movXlYl, .f1 .movYhYl, .unlisted,
    .f1 .movHYl, .f1 .movLYl, .f1 .movAccYl, .f1 .movSpYl]

/-- Base map, block 3 row 4. -/
def block3Row4 : List Entry :=
  [.f1 .movXhH, .f1 .movXlH, .f1 .movYhH, .f1 .movYlH,
    .unlisted, .f1 .movLH, .f1 .movAccH, .f1 .movSpH]

/-- Base map, block 3 row 5. -/
def block3Row5 : List Entry :=
  [.f1 .movXhL, .f1 .movXlL, .f1 .movYhL, .f1 .movYlL,
    .f1 .movHL, .unlisted, .f1 .movAccL, .f1 .movSpL]

/-- Base map, block 3 row 6. -/
def block3Row6 : List Entry :=
  [.f1 .movXhAcc, .f1 .movXlAcc, .f1 .movYhAcc, .f1 .movYlAcc,
    .f1 .movHAcc, .f1 .movLAcc, .unlisted, .f1 .movSpAcc]

/-- Base map, block 3 row 7. -/
def block3Row7 : List Entry :=
  [.f1 .movXhSp, .f1 .movXlSp, .f1 .movYhSp, .f1 .movYlSp,
    .f1 .movHSp, .f1 .movLSp, .f1 .movAccSp, .unlisted]

/-- Base map, block 3 (R113). -/
def block3 : List (List Entry) :=
  [block3Row0, block3Row1, block3Row2, block3Row3, block3Row4, block3Row5, block3Row6, block3Row7]

/-- Extended map row 0. -/
def extBlockRow0 : List Entry :=
  [.f1 .extAddXhl, .f1 .extAddYhl, .unlisted, .f1 .extLdXhYhl,
    .unlisted, .f1 .extStrXhYhl, .f1 .extMovYhlXhl, .f1 .extPshXhl]

/-- Extended map row 1. -/
def extBlockRow1 : List Entry :=
  [.f1 .extAdcXhl, .f1 .extAdcYhl, .unlisted, .f1 .extLdXlYhl,
    .unlisted, .f1 .extStrXlYhl, .f1 .extMovHlXhl, .f1 .extPopXhl]

/-- Extended map row 2. -/
def extBlockRow2 : List Entry :=
  [.f1 .extSubXhl, .f1 .extSubYhl, .f1 .extLdYhXhl, .unlisted,
    .f1 .extStrYhXhl, .unlisted, .f1 .extMovXhlYhl, .f1 .extPshYhl]

/-- Extended map row 3. -/
def extBlockRow3 : List Entry :=
  [.f1 .extSbbXhl, .f1 .extSbbYhl, .f1 .extLdYlXhl, .unlisted,
    .f1 .extStrYlXhl, .unlisted, .f1 .extMovHlYhl, .f1 .extPopYhl]

/-- Extended map row 4. -/
def extBlockRow4 : List Entry :=
  [.f1 .extCmpXhl, .f1 .extCmpYhl, .f1 .extLdHXhl, .f1 .extLdHYhl,
    .f1 .extStrHXhl, .f1 .extStrHYhl, .f1 .extMovXhlHl, .f1 .extPshHl]

/-- Extended map row 5. -/
def extBlockRow5 : List Entry :=
  [.f1 .extAndXhl, .f1 .extAndYhl, .f1 .extLdLXhl, .f1 .extLdLYhl,
    .f1 .extStrLXhl, .f1 .extStrLYhl, .f1 .extMovYhlHl, .f1 .extPopHl]

/-- Extended map row 6. -/
def extBlockRow6 : List Entry :=
  [.f1 .extOrXhl, .f1 .extOrYhl, .f1 .extLdAccXhl, .f1 .extLdAccYhl,
    .f1 .extStrAccXhl, .f1 .extStrAccYhl, .unlisted, .f1 .extPshPc]

/-- Extended map row 7. -/
def extBlockRow7 : List Entry :=
  [.f1 .extXorXhl, .f1 .extXorYhl, .unlisted, .unlisted,
    .unlisted, .unlisted, .unlisted, .f1 .extPopPc]

/-- Extended map (R114). -/
def extBlock : List (List Entry) :=
  [extBlockRow0, extBlockRow1, extBlockRow2, extBlockRow3, extBlockRow4, extBlockRow5, extBlockRow6, extBlockRow7]

/-- The matrix of a block in a mode. Extended mode lists block 0 only (R116). -/
def blockMatrix (m : Mode) (block : Nat) : List (List Entry) :=
  match m with
  | .base =>
    match block with
    | 0 => block0
    | 1 => block1
    | 2 => block2
    | _ => block3
  | .ext =>
    match block with
    | 0 => extBlock
    | _ => []

/-- The cell of an opcode byte: block = bits 7:6, row = bits 5:3, column = bits 2:0 (R101, R107). -/
def entryAt (m : Mode) (op : Byte) : Entry :=
  ((blockMatrix m (op.toNat / 64)).getD (op.toNat / 8 % 8) []).getD (op.toNat % 8) .unlisted

/-- Why bytes are no instruction. -/
inductive DecodeError where
  /-- The opcode byte has no row in the mode's tables (R115, R116). -/
  | unlisted (m : Mode) (op : Byte)
  /-- The byte list ends before the instruction does. -/
  | truncated
  deriving DecidableEq, Repr

/-- The instruction at the head of a byte list, with the bytes after it. -/
def decodeBytes (m : Mode) (bs : List Byte) : Except DecodeError (Instr × List Byte) :=
  match bs with
  | [] => .error .truncated
  | op :: rest =>
    match entryAt m op with
    | .unlisted => .error (.unlisted m op)
    | .f1 i => .ok (i, rest)
    | .f2 mk =>
      match rest with
      | b1 :: rest => .ok (mk b1, rest)
      | [] => .error .truncated
    | .f3 mk =>
      match rest with
      | b1 :: b2 :: rest => .ok (mk b1 b2, rest)
      | _ => .error .truncated

/-! The encoder. -/

/-- The register's number (10_state.md R30). -/
def Reg.index : Reg → Nat
  | .xh => 0
  | .xl => 1
  | .yh => 2
  | .yl => 3
  | .h => 4
  | .l => 5
  | .acc => 6
  | .sp => 7

/-- The pair's index (R109). -/
def Pair.index : Pair → Nat
  | .xhl => 0
  | .yhl => 1
  | .hl => 2

/-- The condition's row (10_state.md R52). -/
def Cond.index : Cond → Nat
  | .u => 0
  | .c => 1
  | .n => 2
  | .z => 3
  | .nc => 4
  | .nn => 5
  | .nz => 6
  | .i => 7

/-- The machine-control row (R140). -/
def Control.index : Control → Nat
  | .nin => 0
  | .clc => 1
  | .cln => 2
  | .clz => 3
  | .cli => 4
  | .clf => 5
  | .ext => 6
  | .hlt => 7

/-- The accumulator operation's row (R230). -/
def AccOp.index : AccOp → Nat
  | .inc => 0
  | .dec => 1
  | .ror => 2
  | .rol => 3
  | .rsh => 4
  | .lsh => 5
  | .not => 6

/-- The operation's row (R250, R460). -/
def AluOp.index : AluOp → Nat
  | .add => 0
  | .adc => 1
  | .sub => 2
  | .sbb => 3
  | .cmp => 4
  | .and => 5
  | .or => 6
  | .xor => 7

/-- An opcode byte from its fields (R101). -/
def opcodeByte (block row col : Nat) : Byte := BitVec.ofNat 8 (block * 64 + row * 8 + col)

/-- The decode mode of a place: Xhl and Yhl as pointers belong to the extended set (R114, R122). -/
def Place.mode : Place → Mode
  | .ind .xhl => .ext
  | .ind .yhl => .ext
  | _ => .base

/-- The decode mode of an operand. -/
def Source.mode : Source → Mode
  | .mem p => p.mode
  | _ => .base

/-- The decode mode of a form (R122). -/
def Form.mode : Form → Mode
  | .alu _ src => src.mode
  | .ld _ src => src.mode
  | .str _ p => p.mode
  | .movPair _ _ => .ext
  | .pshPair _ => .ext
  | .popPair _ => .ext
  | .pshPc => .ext
  | .popPc => .ext
  | _ => .base

/-- The row of a 16-bit move, from its destination and source (49_extended_16bit.md R500). -/
def movPairRow (s d : Pair) : Nat :=
  match d, s with
  | .xhl, .yhl => 0
  | .xhl, _ => 1
  | .yhl, .xhl => 2
  | .yhl, _ => 3
  | .hl, .xhl => 4
  | .hl, _ => 5

/-- Block and column of an arithmetic or logic operand (R250, R460). -/
def aluBlockCol : Source → Nat × Nat
  | .mem (.abs _ _) => (1, 0)
  | .mem (.zp _) => (1, 1)
  | .mem (.ind .hl) => (1, 2)
  | .imm _ => (1, 3)
  | .reg r => (1, 4 + r.index)
  | .mem (.ind .xhl) => (0, 0)
  | .mem (.ind .yhl) => (0, 1)

/-- Block and column of a load source (R340, R461). No load takes a register: `Form.wf` refuses it. -/
def ldBlockCol : Source → Nat × Nat
  | .mem (.abs _ _) => (2, 0)
  | .mem (.zp _) => (2, 1)
  | .mem (.ind .hl) => (2, 2)
  | .imm _ => (2, 3)
  | .reg _ => (2, 7)
  | .mem (.ind .xhl) => (0, 2)
  | .mem (.ind .yhl) => (0, 3)

/-- Block and column of a store destination (R341, R461). -/
def strBlockCol : Place → Nat × Nat
  | .abs _ _ => (2, 4)
  | .zp _ => (2, 5)
  | .ind .hl => (2, 6)
  | .ind .xhl => (0, 4)
  | .ind .yhl => (0, 5)

/-- The opcode byte of a form, from its fields (R101, R109). -/
def Form.opcode : Form → Byte
  | .control k => opcodeByte 0 k.index 0
  | .jmp k _ _ => opcodeByte 0 k.index 1
  | .jsr k _ _ => opcodeByte 0 k.index 2
  | .rtn k => opcodeByte 0 k.index 3
  | .psh r => opcodeByte 0 r.index 4
  | .pop r => opcodeByte 0 r.index 5
  | .incPair p => opcodeByte 0 (2 * p.index) 6
  | .decPair p => opcodeByte 0 (2 * p.index + 1) 6
  | .accOp o => opcodeByte 0 o.index 7
  | .alu op src => opcodeByte (aluBlockCol src).1 op.index (aluBlockCol src).2
  | .ld r src => opcodeByte (ldBlockCol src).1 r.index (ldBlockCol src).2
  | .str r p => opcodeByte (strBlockCol p).1 r.index (strBlockCol p).2
  | .mov s d => opcodeByte 3 d.index s.index
  | .movPair s d => opcodeByte 0 (movPairRow s d) 6
  | .pshPair p => opcodeByte 0 (2 * p.index) 7
  | .popPair p => opcodeByte 0 (2 * p.index + 1) 7
  | .pshPc => opcodeByte 0 6 7
  | .popPc => opcodeByte 0 7 7

/-- The operand bytes of a place, in memory order (R102). -/
def Place.bytes : Place → List Byte
  | .abs b1 b2 => [b1, b2]
  | .zp zz => [zz]
  | .ind _ => []

/-- The operand bytes of an operand (R102). -/
def Source.bytes : Source → List Byte
  | .mem p => p.bytes
  | .imm nn => [nn]
  | .reg _ => []

/-- The operand bytes of a form (R102). -/
def Form.operandBytes : Form → List Byte
  | .jmp _ b1 b2 => [b1, b2]
  | .jsr _ b1 b2 => [b1, b2]
  | .alu _ src => src.bytes
  | .ld _ src => src.bytes
  | .str _ p => p.bytes
  | _ => []

/-- The instruction as family, fields and operands: each row of the opcode table read from its assembly text (R119, R121). -/
def Instr.form : Instr → Form
  | .nin => .control .nin
  | .clc => .control .clc
  | .cln => .control .cln
  | .clz => .control .clz
  | .cli => .control .cli
  | .clf => .control .clf
  | .ext => .control .ext
  | .hlt => .control .hlt
  | .jmpU b1 b2 => .jmp .u b1 b2
  | .jmpC b1 b2 => .jmp .c b1 b2
  | .jmpN b1 b2 => .jmp .n b1 b2
  | .jmpZ b1 b2 => .jmp .z b1 b2
  | .jmpNc b1 b2 => .jmp .nc b1 b2
  | .jmpNn b1 b2 => .jmp .nn b1 b2
  | .jmpNz b1 b2 => .jmp .nz b1 b2
  | .jmpI b1 b2 => .jmp .i b1 b2
  | .jsrU b1 b2 => .jsr .u b1 b2
  | .jsrC b1 b2 => .jsr .c b1 b2
  | .jsrN b1 b2 => .jsr .n b1 b2
  | .jsrZ b1 b2 => .jsr .z b1 b2
  | .jsrNc b1 b2 => .jsr .nc b1 b2
  | .jsrNn b1 b2 => .jsr .nn b1 b2
  | .jsrNz b1 b2 => .jsr .nz b1 b2
  | .jsrI b1 b2 => .jsr .i b1 b2
  | .rtnU => .rtn .u
  | .rtnC => .rtn .c
  | .rtnN => .rtn .n
  | .rtnZ => .rtn .z
  | .rtnNc => .rtn .nc
  | .rtnNn => .rtn .nn
  | .rtnNz => .rtn .nz
  | .pshXh => .psh .xh
  | .pshXl => .psh .xl
  | .pshYh => .psh .yh
  | .pshYl => .psh .yl
  | .pshH => .psh .h
  | .pshL => .psh .l
  | .pshAcc => .psh .acc
  | .popXh => .pop .xh
  | .popXl => .pop .xl
  | .popYh => .pop .yh
  | .popYl => .pop .yl
  | .popH => .pop .h
  | .popL => .pop .l
  | .popAcc => .pop .acc
  | .incXhl => .incPair .xhl
  | .incYhl => .incPair .yhl
  | .incHl => .incPair .hl
  | .decXhl => .decPair .xhl
  | .decYhl => .decPair .yhl
  | .decHl => .decPair .hl
  | .incAcc => .accOp .inc
  | .decAcc => .accOp .dec
  | .rorAcc => .accOp .ror
  | .rolAcc => .accOp .rol
  | .rshAcc => .accOp .rsh
  | .lshAcc => .accOp .lsh
  | .notAcc => .accOp .not
  | .addAbs b1 b2 => .alu .add (.mem (.abs b1 b2))
  | .addZp zz => .alu .add (.mem (.zp zz))
  | .addHl => .alu .add (.mem (.ind .hl))
  | .addImm nn => .alu .add (.imm nn)
  | .addXh => .alu .add (.reg .xh)
  | .addXl => .alu .add (.reg .xl)
  | .addYh => .alu .add (.reg .yh)
  | .addYl => .alu .add (.reg .yl)
  | .adcAbs b1 b2 => .alu .adc (.mem (.abs b1 b2))
  | .adcZp zz => .alu .adc (.mem (.zp zz))
  | .adcHl => .alu .adc (.mem (.ind .hl))
  | .adcImm nn => .alu .adc (.imm nn)
  | .adcXh => .alu .adc (.reg .xh)
  | .adcXl => .alu .adc (.reg .xl)
  | .adcYh => .alu .adc (.reg .yh)
  | .adcYl => .alu .adc (.reg .yl)
  | .subAbs b1 b2 => .alu .sub (.mem (.abs b1 b2))
  | .subZp zz => .alu .sub (.mem (.zp zz))
  | .subHl => .alu .sub (.mem (.ind .hl))
  | .subImm nn => .alu .sub (.imm nn)
  | .subXh => .alu .sub (.reg .xh)
  | .subXl => .alu .sub (.reg .xl)
  | .subYh => .alu .sub (.reg .yh)
  | .subYl => .alu .sub (.reg .yl)
  | .sbbAbs b1 b2 => .alu .sbb (.mem (.abs b1 b2))
  | .sbbZp zz => .alu .sbb (.mem (.zp zz))
  | .sbbHl => .alu .sbb (.mem (.ind .hl))
  | .sbbImm nn => .alu .sbb (.imm nn)
  | .sbbXh => .alu .sbb (.reg .xh)
  | .sbbXl => .alu .sbb (.reg .xl)
  | .sbbYh => .alu .sbb (.reg .yh)
  | .sbbYl => .alu .sbb (.reg .yl)
  | .cmpAbs b1 b2 => .alu .cmp (.mem (.abs b1 b2))
  | .cmpZp zz => .alu .cmp (.mem (.zp zz))
  | .cmpHl => .alu .cmp (.mem (.ind .hl))
  | .cmpImm nn => .alu .cmp (.imm nn)
  | .cmpXh => .alu .cmp (.reg .xh)
  | .cmpXl => .alu .cmp (.reg .xl)
  | .cmpYh => .alu .cmp (.reg .yh)
  | .cmpYl => .alu .cmp (.reg .yl)
  | .andAbs b1 b2 => .alu .and (.mem (.abs b1 b2))
  | .andZp zz => .alu .and (.mem (.zp zz))
  | .andHl => .alu .and (.mem (.ind .hl))
  | .andImm nn => .alu .and (.imm nn)
  | .andXh => .alu .and (.reg .xh)
  | .andXl => .alu .and (.reg .xl)
  | .andYh => .alu .and (.reg .yh)
  | .andYl => .alu .and (.reg .yl)
  | .orAbs b1 b2 => .alu .or (.mem (.abs b1 b2))
  | .orZp zz => .alu .or (.mem (.zp zz))
  | .orHl => .alu .or (.mem (.ind .hl))
  | .orImm nn => .alu .or (.imm nn)
  | .orXh => .alu .or (.reg .xh)
  | .orXl => .alu .or (.reg .xl)
  | .orYh => .alu .or (.reg .yh)
  | .orYl => .alu .or (.reg .yl)
  | .xorAbs b1 b2 => .alu .xor (.mem (.abs b1 b2))
  | .xorZp zz => .alu .xor (.mem (.zp zz))
  | .xorHl => .alu .xor (.mem (.ind .hl))
  | .xorImm nn => .alu .xor (.imm nn)
  | .xorXh => .alu .xor (.reg .xh)
  | .xorXl => .alu .xor (.reg .xl)
  | .xorYh => .alu .xor (.reg .yh)
  | .xorYl => .alu .xor (.reg .yl)
  | .ldXhAbs b1 b2 => .ld .xh (.mem (.abs b1 b2))
  | .ldXhZp zz => .ld .xh (.mem (.zp zz))
  | .ldXhHl => .ld .xh (.mem (.ind .hl))
  | .ldXhImm nn => .ld .xh (.imm nn)
  | .ldXlAbs b1 b2 => .ld .xl (.mem (.abs b1 b2))
  | .ldXlZp zz => .ld .xl (.mem (.zp zz))
  | .ldXlHl => .ld .xl (.mem (.ind .hl))
  | .ldXlImm nn => .ld .xl (.imm nn)
  | .ldYhAbs b1 b2 => .ld .yh (.mem (.abs b1 b2))
  | .ldYhZp zz => .ld .yh (.mem (.zp zz))
  | .ldYhHl => .ld .yh (.mem (.ind .hl))
  | .ldYhImm nn => .ld .yh (.imm nn)
  | .ldYlAbs b1 b2 => .ld .yl (.mem (.abs b1 b2))
  | .ldYlZp zz => .ld .yl (.mem (.zp zz))
  | .ldYlHl => .ld .yl (.mem (.ind .hl))
  | .ldYlImm nn => .ld .yl (.imm nn)
  | .ldHAbs b1 b2 => .ld .h (.mem (.abs b1 b2))
  | .ldHZp zz => .ld .h (.mem (.zp zz))
  | .ldHImm nn => .ld .h (.imm nn)
  | .ldLAbs b1 b2 => .ld .l (.mem (.abs b1 b2))
  | .ldLZp zz => .ld .l (.mem (.zp zz))
  | .ldLImm nn => .ld .l (.imm nn)
  | .ldAccAbs b1 b2 => .ld .acc (.mem (.abs b1 b2))
  | .ldAccZp zz => .ld .acc (.mem (.zp zz))
  | .ldAccHl => .ld .acc (.mem (.ind .hl))
  | .ldAccImm nn => .ld .acc (.imm nn)
  | .ldSpAbs b1 b2 => .ld .sp (.mem (.abs b1 b2))
  | .ldSpZp zz => .ld .sp (.mem (.zp zz))
  | .ldSpHl => .ld .sp (.mem (.ind .hl))
  | .ldSpImm nn => .ld .sp (.imm nn)
  | .strXhAbs b1 b2 => .str .xh (.abs b1 b2)
  | .strXhZp zz => .str .xh (.zp zz)
  | .strXhHl => .str .xh (.ind .hl)
  | .strXlAbs b1 b2 => .str .xl (.abs b1 b2)
  | .strXlZp zz => .str .xl (.zp zz)
  | .strXlHl => .str .xl (.ind .hl)
  | .strYhAbs b1 b2 => .str .yh (.abs b1 b2)
  | .strYhZp zz => .str .yh (.zp zz)
  | .strYhHl => .str .yh (.ind .hl)
  | .strYlAbs b1 b2 => .str .yl (.abs b1 b2)
  | .strYlZp zz => .str .yl (.zp zz)
  | .strYlHl => .str .yl (.ind .hl)
  | .strHAbs b1 b2 => .str .h (.abs b1 b2)
  | .strHZp zz => .str .h (.zp zz)
  | .strLAbs b1 b2 => .str .l (.abs b1 b2)
  | .strLZp zz => .str .l (.zp zz)
  | .strAccAbs b1 b2 => .str .acc (.abs b1 b2)
  | .strAccZp zz => .str .acc (.zp zz)
  | .strAccHl => .str .acc (.ind .hl)
  | .strSpAbs b1 b2 => .str .sp (.abs b1 b2)
  | .strSpZp zz => .str .sp (.zp zz)
  | .strSpHl => .str .sp (.ind .hl)
  | .movXhXl => .mov .xh .xl
  | .movXhYh => .mov .xh .yh
  | .movXhYl => .mov .xh .yl
  | .movXhH => .mov .xh .h
  | .movXhL => .mov .xh .l
  | .movXhAcc => .mov .xh .acc
  | .movXhSp => .mov .xh .sp
  | .movXlXh => .mov .xl .xh
  | .movXlYh => .mov .xl .yh
  | .movXlYl => .mov .xl .yl
  | .movXlH => .mov .xl .h
  | .movXlL => .mov .xl .l
  | .movXlAcc => .mov .xl .acc
  | .movXlSp => .mov .xl .sp
  | .movYhXh => .mov .yh .xh
  | .movYhXl => .mov .yh .xl
  | .movYhYl => .mov .yh .yl
  | .movYhH => .mov .yh .h
  | .movYhL => .mov .yh .l
  | .movYhAcc => .mov .yh .acc
  | .movYhSp => .mov .yh .sp
  | .movYlXh => .mov .yl .xh
  | .movYlXl => .mov .yl .xl
  | .movYlYh => .mov .yl .yh
  | .movYlH => .mov .yl .h
  | .movYlL => .mov .yl .l
  | .movYlAcc => .mov .yl .acc
  | .movYlSp => .mov .yl .sp
  | .movHXh => .mov .h .xh
  | .movHXl => .mov .h .xl
  | .movHYh => .mov .h .yh
  | .movHYl => .mov .h .yl
  | .movHL => .mov .h .l
  | .movHAcc => .mov .h .acc
  | .movHSp => .mov .h .sp
  | .movLXh => .mov .l .xh
  | .movLXl => .mov .l .xl
  | .movLYh => .mov .l .yh
  | .movLYl => .mov .l .yl
  | .movLH => .mov .l .h
  | .movLAcc => .mov .l .acc
  | .movLSp => .mov .l .sp
  | .movAccXh => .mov .acc .xh
  | .movAccXl => .mov .acc .xl
  | .movAccYh => .mov .acc .yh
  | .movAccYl => .mov .acc .yl
  | .movAccH => .mov .acc .h
  | .movAccL => .mov .acc .l
  | .movAccSp => .mov .acc .sp
  | .movSpXh => .mov .sp .xh
  | .movSpXl => .mov .sp .xl
  | .movSpYh => .mov .sp .yh
  | .movSpYl => .mov .sp .yl
  | .movSpH => .mov .sp .h
  | .movSpL => .mov .sp .l
  | .movSpAcc => .mov .sp .acc
  | .extAddXhl => .alu .add (.mem (.ind .xhl))
  | .extAddYhl => .alu .add (.mem (.ind .yhl))
  | .extAdcXhl => .alu .adc (.mem (.ind .xhl))
  | .extAdcYhl => .alu .adc (.mem (.ind .yhl))
  | .extSubXhl => .alu .sub (.mem (.ind .xhl))
  | .extSubYhl => .alu .sub (.mem (.ind .yhl))
  | .extSbbXhl => .alu .sbb (.mem (.ind .xhl))
  | .extSbbYhl => .alu .sbb (.mem (.ind .yhl))
  | .extCmpXhl => .alu .cmp (.mem (.ind .xhl))
  | .extCmpYhl => .alu .cmp (.mem (.ind .yhl))
  | .extAndXhl => .alu .and (.mem (.ind .xhl))
  | .extAndYhl => .alu .and (.mem (.ind .yhl))
  | .extOrXhl => .alu .or (.mem (.ind .xhl))
  | .extOrYhl => .alu .or (.mem (.ind .yhl))
  | .extXorXhl => .alu .xor (.mem (.ind .xhl))
  | .extXorYhl => .alu .xor (.mem (.ind .yhl))
  | .extLdXhYhl => .ld .xh (.mem (.ind .yhl))
  | .extLdXlYhl => .ld .xl (.mem (.ind .yhl))
  | .extLdYhXhl => .ld .yh (.mem (.ind .xhl))
  | .extLdYlXhl => .ld .yl (.mem (.ind .xhl))
  | .extLdHXhl => .ld .h (.mem (.ind .xhl))
  | .extLdHYhl => .ld .h (.mem (.ind .yhl))
  | .extLdLXhl => .ld .l (.mem (.ind .xhl))
  | .extLdLYhl => .ld .l (.mem (.ind .yhl))
  | .extLdAccXhl => .ld .acc (.mem (.ind .xhl))
  | .extLdAccYhl => .ld .acc (.mem (.ind .yhl))
  | .extStrXhYhl => .str .xh (.ind .yhl)
  | .extStrXlYhl => .str .xl (.ind .yhl)
  | .extStrYhXhl => .str .yh (.ind .xhl)
  | .extStrYlXhl => .str .yl (.ind .xhl)
  | .extStrHXhl => .str .h (.ind .xhl)
  | .extStrHYhl => .str .h (.ind .yhl)
  | .extStrLXhl => .str .l (.ind .xhl)
  | .extStrLYhl => .str .l (.ind .yhl)
  | .extStrAccXhl => .str .acc (.ind .xhl)
  | .extStrAccYhl => .str .acc (.ind .yhl)
  | .extMovXhlYhl => .movPair .xhl .yhl
  | .extMovXhlHl => .movPair .xhl .hl
  | .extMovYhlXhl => .movPair .yhl .xhl
  | .extMovYhlHl => .movPair .yhl .hl
  | .extMovHlXhl => .movPair .hl .xhl
  | .extMovHlYhl => .movPair .hl .yhl
  | .extPshXhl => .pshPair .xhl
  | .extPshYhl => .pshPair .yhl
  | .extPshHl => .pshPair .hl
  | .extPshPc => .pshPc
  | .extPopXhl => .popPair .xhl
  | .extPopYhl => .popPair .yhl
  | .extPopHl => .popPair .hl
  | .extPopPc => .popPc

/-- The decode mode the instruction is listed in (R107). -/
def Instr.mode (i : Instr) : Mode := i.form.mode

/-- The bytes of an instruction, the opcode byte first, as they lie in memory (R102). The `EXT` before an extended instruction
is an instruction of its own (R118) and is not among them. -/
def encode (i : Instr) : List Byte := i.form.opcode :: i.form.operandBytes

/-- The instruction's length in bytes (R100). -/
def Instr.length (i : Instr) : Nat := (encode i).length

/-- Byte number `k` of a word of the opcode table: the first byte is bits 7:0; bits at or above `nbits` are 0. -/
def tableByte (nbits w k : Nat) : Byte := BitVec.ofNat 8 (w % 2 ^ nbits / 256 ^ k)

/-- How a word of the opcode table is read: the decode mode and the instruction's bytes, three of them (the longest
instruction). The table's words carry no mode (log 21): a word of 16 bits or more whose first byte is `EXT` (0x30) is the
prefix and the extended instruction after it (R118); any other is read in base mode where the base map lists its first byte,
and in extended mode where only the extended map does. -/
def tableBytes (nbits w : Nat) : Mode × List Byte :=
  if 16 ≤ nbits ∧ tableByte nbits w 0 = 0x30#8 then
    (.ext, [tableByte nbits w 1, tableByte nbits w 2, tableByte nbits w 3])
  else
    let bs := [tableByte nbits w 0, tableByte nbits w 1, tableByte nbits w 2]
    match entryAt .base (tableByte nbits w 0) with
    | .unlisted => (.ext, bs)
    | _ => (.base, bs)

/-- The instruction the decoder reads from a word of the opcode table, numbered as the table numbers its bits. -/
def decodeTableWord (nbits w : Nat) : Option Instr :=
  match decodeBytes (tableBytes nbits w).1 (tableBytes nbits w).2 with
  | .ok (i, _) => some i
  | .error _ => none

end Sys2Proof
end

