-- ==== Sys2Proof/Machine/State.lean ====
section
/-! DEFINITION. The state of the machine (10_state.md R55), the configuration and the environment's inputs it carries, the
reasons a step can stop, and the state at launch. -/

namespace Sys2Proof.Machine

/-- The eight 8-bit registers, numbers 0 to 7 (10_state.md R30). The pairs Xhl, Yhl and HL are views of six of them (R34). -/
structure Regs where
  xh : Byte
  xl : Byte
  yh : Byte
  yl : Byte
  h : Byte
  l : Byte
  acc : Byte
  sp : Byte
  deriving DecidableEq, Repr

/-- The flag register F: four independent bits (10_state.md R40). -/
structure Flags where
  c : Bool
  n : Bool
  z : Bool
  i : Bool
  deriving DecidableEq, Repr

/-- The run state (10_state.md R50). -/
inductive RunState where
  | running
  | halted
  deriving DecidableEq, Repr

/-- The memory cells that do not read as `Memory.unlisted`, by rising address (20_memory.md R70). -/
abbrev Memory := List Host.Cell

/-- What a cell that is not listed reads as. The rules give no launch contents (10_state.md R53). DESIGN CHOICE (log 12). -/
def Memory.unlisted : Byte := 0x00#8

/-- The state. `regs` to `mem` are the spec's tuple (R55). `cfg` is the fixed configuration (00_scope.md R6; log 1). `iDraws`
lists the environment's next `i_raise` draws as far as the state fixes them, `iCount` counts the boundaries passed and numbers
the draws after them (R48; log 7); `deviceReads` counts the device reads made and `deviceLog` lists the device writes, oldest
first (20_memory.md R73; log 18). -/
structure State where
  regs : Regs
  pc : Addr
  flags : Flags
  ext : Bool
  run : RunState
  mem : Memory
  cfg : Config
  iDraws : List Bool
  iCount : Nat
  deviceReads : Nat
  deviceLog : List Host.Cell
  deriving DecidableEq, Repr

/-- Why a machine has no step. The rules define no fault (60_exceptions.md R520): each of these is the absence of a step, and
none leaves a partial effect (R521). -/
inductive Fault where
  /-- `step` on a halted machine: the end of a run, left only by the host (R50, R531). Safe: the rules give no step. -/
  | halted
  /-- An access to an address that `MemMap` marks absent (20_memory.md R73), raised by the fetch and by every read and write.
  Safe: the rules give no step. -/
  | stuckAbsent (a : Addr)
  /-- A write to an address that `MemMap` marks rom (R73), raised by every write. Safe: the rules give no step. -/
  | stuckRomWrite (a : Addr)
  /-- A fetch of an instruction byte from an address that `MemMap` marks device (R73; log 17). Safe: the rules give no step. -/
  | stuckDeviceFetch (a : Addr)
  deriving DecidableEq, Repr

/-- Why the model gives no meaning. -/
inductive Refusal where
  /-- An instruction of the table without a meaning yet, raised by `exec`. Safe. No arm uses it. -/
  | notModelled (mnemonic : String)
  /-- An opcode byte with no row in base mode (30_encoding.md R115), raised by the fetch. Safe: the rules refuse the run. -/
  | unlistedBase (op : Byte)
  /-- An opcode byte with no row in extended mode (30_encoding.md R116), raised by the fetch. Safe: the rules refuse the run. -/
  | unlistedExt (op : Byte)
  /-- A host action on a running machine (60_exceptions.md R533), raised by `frontPanel`. Safe: the host has no such move. -/
  | panelWhileRunning
  deriving DecidableEq, Repr

/-- The outcome of an instruction or a step. -/
abbrev Result := Host.Outcome State Fault Refusal

/-- The state at launch. The rules describe no reset (70_reset_and_hazards.md R560): `ext` and `run` are the launch premises
(10_state.md R54); the registers, flags, `pc` and memory, which the rules leave unspecified (R53), are DESIGN CHOICE (logs 8 to
12), and every draw of the environment is free (log 7). -/
def State.reset : State :=
  { regs := { xh := 0, xl := 0, yh := 0, yl := 0, h := 0, l := 0, acc := 0, sp := 0 }
    pc := Config.resetPc
    flags := { c := false, n := false, z := false, i := false }
    ext := false
    run := .running
    mem := []
    cfg := Config.launch
    iDraws := []
    iCount := 0
    deviceReads := 0
    deviceLog := [] }

end Sys2Proof.Machine
end

