-- ==== Sys2Proof/Machine/Ops.lean ====
section
/-! DEFINITION. The operations every meaning is made of: registers and pairs, memory and its admission, the stack, the fetch,
the instruction boundary. There is no exception to take or return from (60_exceptions.md R520, R524). -/

namespace Sys2Proof.Machine

/-! Bytes of a 16-bit value (00_scope.md R8). -/

/-- Bits 15:8. -/
def hiByte (v : Addr) : Byte := v.extractLsb' 8 8

/-- Bits 7:0. -/
def loByte (v : Addr) : Byte := v.extractLsb' 0 8

/-- `{hi, lo}`. -/
def joinBytes (hi lo : Byte) : Addr := hi ++ lo

/-! Registers (10_state.md R30, R34). -/

/-- `x[r]`. -/
def Regs.get (g : Regs) : Reg → Byte
  | .xh => g.xh
  | .xl => g.xl
  | .yh => g.yh
  | .yl => g.yl
  | .h => g.h
  | .l => g.l
  | .acc => g.acc
  | .sp => g.sp

/-- `x[r] <- v`. -/
def Regs.set (g : Regs) (r : Reg) (v : Byte) : Regs :=
  match r with
  | .xh => { g with xh := v }
  | .xl => { g with xl := v }
  | .yh => { g with yh := v }
  | .yl => { g with yl := v }
  | .h => { g with h := v }
  | .l => { g with l := v }
  | .acc => { g with acc := v }
  | .sp => { g with sp := v }

/-- The register that is the high byte of a pair (R34). -/
def pairHigh : Pair → Reg
  | .xhl => .xh
  | .yhl => .yh
  | .hl => .h

/-- The register that is the low byte of a pair (R34). -/
def pairLow : Pair → Reg
  | .xhl => .xl
  | .yhl => .yl
  | .hl => .l

/-- A pair as one 16-bit value (R34). -/
def Regs.getPair (g : Regs) (p : Pair) : Addr := joinBytes (g.get (pairHigh p)) (g.get (pairLow p))

/-- Writing a pair writes both halves (00_scope.md R10). -/
def Regs.setPair (g : Regs) (p : Pair) (v : Addr) : Regs :=
  (g.set (pairHigh p) (hiByte v)).set (pairLow p) (loByte v)

/-- Write one register. -/
def State.setReg (s : State) (r : Reg) (v : Byte) : State := { s with regs := s.regs.set r v }

/-- Write a pair. -/
def State.setPair (s : State) (p : Pair) (v : Addr) : State := { s with regs := s.regs.setPair p v }

/-- Write `pc`. -/
def State.setPc (s : State) (a : Addr) : State := { s with pc := a }

/-- `pc <- pc + n`, modulo 2^16 (10_state.md R37, R38). -/
def State.advance (s : State) (n : Nat) : State := { s with pc := s.pc + BitVec.ofNat 16 n }

/-- Write the four flags. -/
def State.setFlags (s : State) (f : Flags) : State := { s with flags := f }

/-- Write the extended-mode latch (10_state.md R49). -/
def State.setExt (s : State) (b : Bool) : State := { s with ext := b }

/-- Write the run state (10_state.md R50). -/
def State.setRun (s : State) (r : RunState) : State := { s with run := r }

/-- Write the whole memory. -/
def State.setMem (s : State) (m : Memory) : State := { s with mem := m }

/-- The decode mode of the next opcode byte (30_encoding.md R107). -/
def State.mode (s : State) : Mode := if s.ext then .ext else .base

/-! Memory cells (20_memory.md R70). -/

/-- The byte at key `k` of the cell list. -/
def Memory.readAt (m : Memory) (k : Nat) : Byte :=
  match m with
  | [] => Memory.unlisted
  | (j, v) :: rest => if j = k then v else Memory.readAt rest k

/-- Make the byte at key `k` equal to `v`, keeping the list rising and free of unlisted values. -/
def Memory.writeAt (m : Memory) (k : Nat) (v : Byte) : Memory :=
  match m with
  | [] => if v = Memory.unlisted then [] else [(k, v)]
  | (j, w) :: rest =>
    if j = k then (if v = Memory.unlisted then rest else (k, v) :: rest)
    else if k < j then (if v = Memory.unlisted then (j, w) :: rest else (k, v) :: (j, w) :: rest)
    else (j, w) :: Memory.writeAt rest k v

/-- The byte at a 16-bit address. -/
def Memory.read (m : Memory) (a : Addr) : Byte := m.readAt a.toNat

/-- Make the byte at a 16-bit address equal to `v`. -/
def Memory.write (m : Memory) (a : Addr) (v : Byte) : Memory := m.writeAt a.toNat v

/-- The keys rise strictly from `low` on, stay inside the address space, and no value is the unlisted one. -/
def Memory.wfFrom (low : Nat) (m : Memory) : Bool :=
  match m with
  | [] => true
  | (j, v) :: rest =>
    decide (low ≤ j) && decide (j < 65536) && decide (v ≠ Memory.unlisted) && Memory.wfFrom (j + 1) rest

/-- The canonical form: addresses strictly rising below 2^16 and no entry equal to what an unlisted address reads as. -/
def Memory.wf (m : Memory) : Bool := Memory.wfFrom 0 m

/-! Admission (20_memory.md R73, R84). -/

/-- `MemMap` at an address: the first range that holds it decides, and an address in no range is absent. -/
def kindIn (m : List Region) (a : Addr) : CellKind :=
  match m with
  | [] => .absent
  | r :: rest => if r.first ≤ a.toNat ∧ a.toNat ≤ r.last then r.kind else kindIn rest a

/-- `MemMap` of the state's configuration. -/
def State.kindAt (s : State) (a : Addr) : CellKind := kindIn s.cfg.memMap a

/-- A data read of this kind of cell is admitted (R73). -/
def readAdmitted : CellKind → Bool
  | .ram => true
  | .rom => true
  | .device => true
  | .absent => false

/-- A write of this kind of cell is admitted (R73). -/
def writeAdmitted : CellKind → Bool
  | .ram => true
  | .device => true
  | .rom => false
  | .absent => false

/-- A fetch of an instruction byte of this kind of cell is admitted (R73). -/
def fetchAdmitted : CellKind → Bool
  | .ram => true
  | .rom => true
  | .device => false
  | .absent => false

/-- What an admitted data read returns: the cell's byte, and from a device a byte drawn from the environment (R73). -/
def State.readValue (s : State) (a : Addr) : Byte :=
  match s.kindAt a with
  | .device => Config.deviceByte s.deviceReads a
  | _ => s.mem.read a

/-- The state after an admitted data read: reading ram or rom changes nothing (20_memory.md R83), a device read is counted. -/
def State.afterRead (s : State) (a : Addr) : State :=
  match s.kindAt a with
  | .device => { s with deviceReads := s.deviceReads + 1 }
  | _ => s

/-- The state after an admitted write: ram stores, a device write is an event handed to the environment (R73). -/
def State.afterWrite (s : State) (a : Addr) (v : Byte) : State :=
  match s.kindAt a with
  | .device => { s with deviceLog := s.deviceLog ++ [(a.toNat, v)] }
  | _ => { s with mem := s.mem.write a v }

/-- `MemRead(a, 1)` as a data read (R73). -/
def memRead (a : Addr) (s : State) : Except Fault (Byte × State) :=
  if readAdmitted (s.kindAt a) then .ok (s.readValue a, s.afterRead a) else .error (.stuckAbsent a)

/-- `MemWrite(a, 1, v)` (R73). -/
def memWrite (a : Addr) (v : Byte) (s : State) : Except Fault State :=
  match s.kindAt a with
  | .ram => .ok (s.afterWrite a v)
  | .device => .ok (s.afterWrite a v)
  | .rom => .error (.stuckRomWrite a)
  | .absent => .error (.stuckAbsent a)

/-- The fetch of one instruction byte: `MemRead` that a device does not admit (R73; log 17). -/
def fetchByte (a : Addr) (s : State) : Except Fault Byte :=
  match s.kindAt a with
  | .ram => .ok (s.mem.read a)
  | .rom => .ok (s.mem.read a)
  | .device => .error (.stuckDeviceFetch a)
  | .absent => .error (.stuckAbsent a)

/-! The stack (20_memory.md R75 to R79). -/

/-- `StackAddr(p) = {STACK_PAGE, p}` (R75). -/
def State.stackAddr (s : State) (p : Byte) : Addr := joinBytes s.cfg.stackPage p

/-- `Push8(v)`: write at SP, then SP + 1 modulo 256 (R76). -/
def push8 (v : Byte) (s : State) : Except Fault State :=
  match memWrite (s.stackAddr s.regs.sp) v s with
  | .error f => .error f
  | .ok t => .ok (t.setReg .sp (s.regs.sp + 1#8))

/-- `Pop8()`: SP - 1 modulo 256, then read at SP (R77). -/
def pop8 (s : State) : Except Fault (Byte × State) :=
  match memRead (s.stackAddr (s.regs.sp - 1#8)) s with
  | .error f => .error f
  | .ok (b, t) => .ok (b, t.setReg .sp (s.regs.sp - 1#8))

/-- The byte of a 16-bit value that is pushed first (R78). -/
def firstPushed (c : Config) (v : Addr) : Byte := if c.stackHighFirst then hiByte v else loByte v

/-- The byte of a 16-bit value that is pushed second (R78). -/
def secondPushed (c : Config) (v : Addr) : Byte := if c.stackHighFirst then loByte v else hiByte v

/-- `Push16(v)`: two `Push8` (R78). -/
def push16 (v : Addr) (s : State) : Except Fault State :=
  match push8 (firstPushed s.cfg v) s with
  | .error f => .error f
  | .ok t => push8 (secondPushed s.cfg v) t

/-- The 16-bit value whose pushed bytes were `first`, then `second`: the inverse of the two above (R79). -/
def fromPushed (c : Config) (first second : Byte) : Addr :=
  if c.stackHighFirst then joinBytes first second else joinBytes second first

/-- `Pop16()`: two `Pop8`; the byte pushed second comes off first (R79). -/
def pop16 (s : State) : Except Fault (Addr × State) :=
  match pop8 s with
  | .error f => .error f
  | .ok (second, t) =>
    match pop8 t with
    | .error f => .error f
    | .ok (first, u) => .ok (fromPushed s.cfg first second, u)

/-! Outcomes. -/

/-- The end of an extended instruction: the latch clears when it finishes (10_state.md R49, 30_encoding.md R108; log 19). -/
def endExtended (r : Result) : Result :=
  match r with
  | .next t => .next (t.setExt false)
  | .fault f => .fault f
  | .refused e => .refused e

/-! The instruction boundary and the fetch (30_encoding.md R108). -/

/-- The draw `i_raise` of the next boundary: the one the state lists, and after the list the free sequence (10_state.md R48;
log 7). -/
def State.iRaise (s : State) : Bool := s.iDraws.headD (Config.iRaise s.iCount)

/-- The instruction boundary: the environment's next draw may set I, and never clears it (10_state.md R48; log 7). -/
def boundary (s : State) : State :=
  { s with flags := { s.flags with i := s.flags.i || s.iRaise }, iDraws := s.iDraws.tail, iCount := s.iCount + 1 }

/-- The refusal of an unlisted opcode byte (R115, R116). -/
def unlistedIn (m : Mode) (op : Byte) : Refusal :=
  match m with
  | .base => .unlistedBase op
  | .ext => .unlistedExt op

/-- The instruction at `pc`: its opcode byte, then its operand bytes, all of them, at the addresses after it modulo 2^16
(20_memory.md R82, 10_state.md R38). An unlisted opcode byte is refused before any operand byte is read (R115). -/
def fetchInstr (s : State) : Host.Outcome Instr Fault Refusal :=
  match fetchByte s.pc s with
  | .error f => .fault f
  | .ok op =>
    match entryAt s.mode op with
    | .unlisted => .refused (unlistedIn s.mode op)
    | .f1 i => .next i
    | .f2 mk =>
      match fetchByte (s.pc + 1#16) s with
      | .error f => .fault f
      | .ok b1 => .next (mk b1)
    | .f3 mk =>
      match fetchByte (s.pc + 1#16) s with
      | .error f => .fault f
      | .ok b1 =>
        match fetchByte (s.pc + 2#16) s with
        | .error f => .fault f
        | .ok b2 => .next (mk b1 b2)

/-! Loading an instruction from outside (log 22). -/

/-- A map that admits the fetch at `a`: unchanged where it already does. -/
def admitFetch (m : List Region) (a : Addr) : List Region :=
  if fetchAdmitted (kindIn m a) then m else { first := a.toNat, last := a.toNat, kind := .ram } :: m

/-- Bytes stored from address `a` on, modulo 2^16, whatever the map says. -/
def loadBytes (m : Memory) (a : Addr) (bs : List Byte) : Memory :=
  match bs with
  | [] => m
  | b :: rest => loadBytes (m.write a b) (a + 1#16) rest

/-- A map that admits the fetch of `n` bytes from address `a` on. -/
def admitFetches (m : List Region) (a : Addr) (n : Nat) : List Region :=
  match n with
  | 0 => m
  | k + 1 => admitFetches (admitFetch m a) (a + 1#16) k

/-- The state made ready to run the instruction `bs` in mode `m` in its very next step: its bytes stored at `pc` and admitted,
the latch as the mode asks, the machine running. -/
def placeInstr (s : State) (m : Mode) (bs : List Byte) : State :=
  { s with
    mem := loadBytes s.mem s.pc bs
    cfg := { s.cfg with memMap := admitFetches s.cfg.memMap s.pc bs.length }
    ext := (match m with | .base => false | .ext => true)
    run := .running }

end Sys2Proof.Machine
end

