-- ==== Sys2Proof/Machine/Operands.lean ====
section
/-! DEFINITION. The operand forms: where a place is, what byte an operand is, how long each form is (30_encoding.md R103 to
R106, 20_memory.md R72). -/

namespace Sys2Proof.Machine

/-- `AbsOperand()`: the two operand bytes as one address, in the order `ABS_HIGH_FIRST` says (R103). -/
def absOperand (c : Config) (b1 b2 : Byte) : Addr := if c.absHighFirst then joinBytes b1 b2 else joinBytes b2 b1

/-- `ZpOperand()`: the zero-page address `{0x00, zz}` (R104, 20_memory.md R74). -/
def zpOperand (zz : Byte) : Addr := joinBytes 0x00#8 zz

/-- The effective address of a place (R72). -/
def effAddr (p : Place) (s : State) : Addr :=
  match p with
  | .abs b1 b2 => absOperand s.cfg b1 b2
  | .zp zz => zpOperand zz
  | .ind q => s.regs.getPair q

/-- The operand byte: a data read for a place, and no data access for an immediate or a register (R72, R105). -/
def operandByte (src : Source) (s : State) : Except Fault (Byte × State) :=
  match src with
  | .mem p => memRead (effAddr p s) s
  | .imm nn => .ok (nn, s)
  | .reg r => .ok (s.regs.get r, s)

/-- The length in bytes of an instruction with a place (R106). -/
def placeLength : Place → Nat
  | .abs _ _ => 3
  | .zp _ => 2
  | .ind _ => 1

/-- The length in bytes of an instruction with an operand (R106). -/
def sourceLength : Source → Nat
  | .mem p => placeLength p
  | .imm _ => 2
  | .reg _ => 1

end Sys2Proof.Machine
end

