-- ==== Sys2Proof/Machine/Flags.lean ====
section
/-! DEFINITION. The flag laws: sums, differences, shifts and rotates with their carry, N and Z of a result, the conditions, and
the arithmetic and accumulator operations over them (10_state.md R43 to R47, R52). -/

namespace Sys2Proof.Machine

/-- The flags by name (10_state.md R40). -/
inductive FlagName where
  | c
  | n
  | z
  | i
  deriving DecidableEq, Repr

/-- One flag written. -/
def Flags.set (f : Flags) (x : FlagName) (b : Bool) : Flags :=
  match x with
  | .c => { f with c := b }
  | .n => { f with n := b }
  | .z => { f with z := b }
  | .i => { f with i := b }

/-- `Add8(a, b, cin)`: the sum in the integers, its low eight bits and its bit 8 (R44). -/
def add8 (a b : Byte) (cin : Bool) : Byte × Bool :=
  let t := a.toNat + b.toNat + cin.toNat
  (BitVec.ofNat 8 t, decide (255 < t))

/-- `Sub8(a, b, bin)`: the difference in the integers, modulo 256, and C in the sense of `SUB_CARRY_OUT` (R45). -/
def sub8 (o : SubCarryOut) (a b : Byte) (bin : Bool) : Byte × Bool :=
  let t : Int := (a.toNat : Int) - (b.toNat : Int) - (bin.toNat : Int)
  let w : Bool := decide (t < 0)
  (BitVec.ofInt 8 t,
    match o with
    | .borrow => w
    | .notBorrow => !w)

/-- `Ror8(a, c)`: rotate right through carry (R47). -/
def ror8 (a : Byte) (c : Bool) : Byte × Bool := (BitVec.ofBool c ++ a.extractLsb' 1 7, a.getLsbD 0)

/-- `Rol8(a, c)`: rotate left through carry (R47). -/
def rol8 (a : Byte) (c : Bool) : Byte × Bool := (a.extractLsb' 0 7 ++ BitVec.ofBool c, a.getLsbD 7)

/-- `Rsh8(a)`: shift right, 0 enters bit 7 (R47). -/
def rsh8 (a : Byte) : Byte × Bool := (0#1 ++ a.extractLsb' 1 7, a.getLsbD 0)

/-- `Lsh8(a)`: shift left, 0 enters bit 0 (R47). -/
def lsh8 (a : Byte) : Byte × Bool := (a.extractLsb' 0 7 ++ 0#1, a.getLsbD 7)

/-- The flags after a result `r` with carry `c`: `C <- c; SetNZ(r)`; I is kept (R41, R43). -/
def resultFlags (f : Flags) (r : Byte) (c : Bool) : Flags :=
  { f with c := c, n := r.getLsbD 7, z := decide (r = 0#8) }

/-- `cond(k)` (R52). -/
def condHolds (k : Cond) (f : Flags) : Bool :=
  match k with
  | .u => true
  | .c => f.c
  | .n => f.n
  | .z => f.z
  | .nc => !f.c
  | .nn => !f.n
  | .nz => !f.z
  | .i => f.i

/-- Result and carry of an arithmetic or logic operation on the accumulator `a`, the operand `b` and the old C
(44_arithmetic.md R251, 45_logic.md R310). -/
def aluResult (o : SubCarryOut) (op : AluOp) (a b : Byte) (c : Bool) : Byte × Bool :=
  match op with
  | .add => add8 a b false
  | .adc => add8 a b c
  | .sub => sub8 o a b false
  | .sbb => sub8 o a b c
  | .cmp => sub8 o a b false
  | .and => (a &&& b, Config.logicCarry .and a b c)
  | .or => (a ||| b, Config.logicCarry .or a b c)
  | .xor => ((a ||| b) &&& ~~~(a &&& b), Config.logicCarry .xor a b c)

/-- Result and carry of an accumulator operation on `a` and the old C (43_accumulator_ops.md R231 to R237). -/
def accResult (o : SubCarryOut) (op : AccOp) (a : Byte) (c : Bool) : Byte × Bool :=
  match op with
  | .inc => add8 a 0x01#8 false
  | .dec => sub8 o a 0x01#8 false
  | .ror => ror8 a c
  | .rol => rol8 a c
  | .rsh => rsh8 a
  | .lsh => lsh8 a
  | .not => (a ^^^ 0xFF#8, Config.logicCarry .not a 0xFF#8 c)

/-- The accumulator after an operation of block 1: `CMP` discards the difference (44_arithmetic.md R250). -/
def aluAcc (op : AluOp) (old r : Byte) : Byte :=
  match op with
  | .cmp => old
  | _ => r

/-- Write the accumulator and C, N, Z with the result of an operation on the operand byte `b` (R251). -/
def aluWrite (op : AluOp) (b : Byte) (s : State) : State :=
  let rc := aluResult s.cfg.subCarryOut op s.regs.acc b s.flags.c
  (s.setReg .acc (aluAcc op s.regs.acc rc.1)).setFlags (resultFlags s.flags rc.1 rc.2)

/-- Write the accumulator and C, N, Z with the result of an accumulator operation (R230). -/
def accWrite (op : AccOp) (s : State) : State :=
  let rc := accResult s.cfg.subCarryOut op s.regs.acc s.flags.c
  (s.setReg .acc rc.1).setFlags (resultFlags s.flags rc.1 rc.2)

end Sys2Proof.Machine
end

