-- ==== Sys2Proof/Machine/Accumulator.lean ====
section
/-! DEFINITION. The accumulator operations, block 0 column 7 (43_accumulator_ops.md R230). -/

namespace Sys2Proof.Machine

/-- An accumulator operation: it writes Acc, C, N and Z (R230). -/
def accOp (o : AccOp) (s : State) : Result := .next ((accWrite o s).advance 1)

/-- `INC` (R231). -/
def execIncAcc (s : State) : Result := accOp .inc s

/-- `DEC` (R232). -/
def execDecAcc (s : State) : Result := accOp .dec s

/-- `ROR` (R233). -/
def execRorAcc (s : State) : Result := accOp .ror s

/-- `ROL` (R234). -/
def execRolAcc (s : State) : Result := accOp .rol s

/-- `RSH` (R235). -/
def execRshAcc (s : State) : Result := accOp .rsh s

/-- `LSH` (R236). -/
def execLshAcc (s : State) : Result := accOp .lsh s

/-- `NOT` (R237). -/
def execNotAcc (s : State) : Result := accOp .not s

end Sys2Proof.Machine
end

