-- ==== Sys2Proof/Machine/Arithmetic.lean ====
section
/-! DEFINITION. Arithmetic, block 1 rows 0 to 4 (44_arithmetic.md R250, R251). -/

namespace Sys2Proof.Machine

/-- An operation of block 1: the operand byte is read, then Acc, C, N and Z are written (R250, R251). -/
def aluOp (op : AluOp) (src : Source) (s : State) : Result :=
  match operandByte src s with
  | .error f => .fault f
  | .ok (b, t) => .next ((aluWrite op b t).advance (sourceLength src))

/-- `ADD $hhll` (R252). -/
def execAddAbs (b1 b2 : Byte) (s : State) : Result := aluOp .add (.mem (.abs b1 b2)) s

/-- `ADD $zz` (R253). -/
def execAddZp (zz : Byte) (s : State) : Result := aluOp .add (.mem (.zp zz)) s

/-- `ADD (HL)` (R254). -/
def execAddHl (s : State) : Result := aluOp .add (.mem (.ind .hl)) s

/-- `ADD #$nn` (R255). -/
def execAddImm (nn : Byte) (s : State) : Result := aluOp .add (.imm nn) s

/-- `ADD Xh` (R256). -/
def execAddXh (s : State) : Result := aluOp .add (.reg .xh) s

/-- `ADD Xl` (R257). -/
def execAddXl (s : State) : Result := aluOp .add (.reg .xl) s

/-- `ADD Yh` (R258). -/
def execAddYh (s : State) : Result := aluOp .add (.reg .yh) s

/-- `ADD Yl` (R259). -/
def execAddYl (s : State) : Result := aluOp .add (.reg .yl) s

/-- `ADC $hhll` (R260). -/
def execAdcAbs (b1 b2 : Byte) (s : State) : Result := aluOp .adc (.mem (.abs b1 b2)) s

/-- `ADC $zz` (R261). -/
def execAdcZp (zz : Byte) (s : State) : Result := aluOp .adc (.mem (.zp zz)) s

/-- `ADC (HL)` (R262). -/
def execAdcHl (s : State) : Result := aluOp .adc (.mem (.ind .hl)) s

/-- `ADC #$nn` (R263). -/
def execAdcImm (nn : Byte) (s : State) : Result := aluOp .adc (.imm nn) s

/-- `ADC Xh` (R264). -/
def execAdcXh (s : State) : Result := aluOp .adc (.reg .xh) s

/-- `ADC Xl` (R265). -/
def execAdcXl (s : State) : Result := aluOp .adc (.reg .xl) s

/-- `ADC Yh` (R266). -/
def execAdcYh (s : State) : Result := aluOp .adc (.reg .yh) s

/-- `ADC Yl` (R267). -/
def execAdcYl (s : State) : Result := aluOp .adc (.reg .yl) s

/-- `SUB $hhll` (R268). -/
def execSubAbs (b1 b2 : Byte) (s : State) : Result := aluOp .sub (.mem (.abs b1 b2)) s

/-- `SUB $zz` (R269). -/
def execSubZp (zz : Byte) (s : State) : Result := aluOp .sub (.mem (.zp zz)) s

/-- `SUB (HL)` (R270). -/
def execSubHl (s : State) : Result := aluOp .sub (.mem (.ind .hl)) s

/-- `SUB #$nn` (R271). -/
def execSubImm (nn : Byte) (s : State) : Result := aluOp .sub (.imm nn) s

/-- `SUB Xh` (R272). -/
def execSubXh (s : State) : Result := aluOp .sub (.reg .xh) s

/-- `SUB Xl` (R273). -/
def execSubXl (s : State) : Result := aluOp .sub (.reg .xl) s

/-- `SUB Yh` (R274). -/
def execSubYh (s : State) : Result := aluOp .sub (.reg .yh) s

/-- `SUB Yl` (R275). -/
def execSubYl (s : State) : Result := aluOp .sub (.reg .yl) s

/-- `SBB $hhll` (R276). -/
def execSbbAbs (b1 b2 : Byte) (s : State) : Result := aluOp .sbb (.mem (.abs b1 b2)) s

/-- `SBB $zz` (R277). -/
def execSbbZp (zz : Byte) (s : State) : Result := aluOp .sbb (.mem (.zp zz)) s

/-- `SBB (HL)` (R278). -/
def execSbbHl (s : State) : Result := aluOp .sbb (.mem (.ind .hl)) s

/-- `SBB #$nn` (R279). -/
def execSbbImm (nn : Byte) (s : State) : Result := aluOp .sbb (.imm nn) s

/-- `SBB Xh` (R280). -/
def execSbbXh (s : State) : Result := aluOp .sbb (.reg .xh) s

/-- `SBB Xl` (R281). -/
def execSbbXl (s : State) : Result := aluOp .sbb (.reg .xl) s

/-- `SBB Yh` (R282). -/
def execSbbYh (s : State) : Result := aluOp .sbb (.reg .yh) s

/-- `SBB Yl` (R283). -/
def execSbbYl (s : State) : Result := aluOp .sbb (.reg .yl) s

/-- `CMP $hhll` (R284). -/
def execCmpAbs (b1 b2 : Byte) (s : State) : Result := aluOp .cmp (.mem (.abs b1 b2)) s

/-- `CMP $zz` (R285). -/
def execCmpZp (zz : Byte) (s : State) : Result := aluOp .cmp (.mem (.zp zz)) s

/-- `CMP (HL)` (R286). -/
def execCmpHl (s : State) : Result := aluOp .cmp (.mem (.ind .hl)) s

/-- `CMP #$nn` (R287). -/
def execCmpImm (nn : Byte) (s : State) : Result := aluOp .cmp (.imm nn) s

/-- `CMP Xh` (R288). -/
def execCmpXh (s : State) : Result := aluOp .cmp (.reg .xh) s

/-- `CMP Xl` (R289). -/
def execCmpXl (s : State) : Result := aluOp .cmp (.reg .xl) s

/-- `CMP Yh` (R290). -/
def execCmpYh (s : State) : Result := aluOp .cmp (.reg .yh) s

/-- `CMP Yl` (R291). -/
def execCmpYl (s : State) : Result := aluOp .cmp (.reg .yl) s

end Sys2Proof.Machine
end

