-- ==== Sys2Proof/Machine/Extended16.lean ====
section
/-! DEFINITION. Extended 16-bit moves, pushes and pops, extended columns 6 and 7 (49_extended_16bit.md R500). No flag is written. -/

namespace Sys2Proof.Machine

/-- `MOV` of a pair into another: both bytes (R500). -/
def movePair (src dst : Pair) (s : State) : Result := .next ((s.setPair dst (s.regs.getPair src)).advance 1)

/-- `PSH` of a pair: `Push16` (R500, 20_memory.md R78). -/
def pushPair (p : Pair) (s : State) : Result :=
  match push16 (s.regs.getPair p) s with
  | .error f => .fault f
  | .ok t => .next (t.advance 1)

/-- `POP` of a pair: `Pop16` (R500, 20_memory.md R79). -/
def popPair (p : Pair) (s : State) : Result :=
  match pop16 s with
  | .error f => .fault f
  | .ok (v, t) => .next ((t.setPair p v).advance 1)

/-- `PSH PC`: `Push16` of the address of the next instruction (R510). -/
def pushPc (s : State) : Result :=
  match push16 (s.pc + 1#16) s with
  | .error f => .fault f
  | .ok t => .next (t.advance 1)

/-- `POP PC`: `pc` becomes `Pop16` (R514). -/
def popPc (s : State) : Result :=
  match pop16 s with
  | .error f => .fault f
  | .ok (v, t) => .next (t.setPc v)

/-- `MOV Xhl, Yhl` after `EXT` (R501). -/
def execExtMovXhlYhl (s : State) : Result := endExtended (movePair .xhl .yhl s)

/-- `MOV Xhl, HL` after `EXT` (R502). -/
def execExtMovXhlHl (s : State) : Result := endExtended (movePair .xhl .hl s)

/-- `MOV Yhl, Xhl` after `EXT` (R503). -/
def execExtMovYhlXhl (s : State) : Result := endExtended (movePair .yhl .xhl s)

/-- `MOV Yhl, HL` after `EXT` (R504). -/
def execExtMovYhlHl (s : State) : Result := endExtended (movePair .yhl .hl s)

/-- `MOV HL, Xhl` after `EXT` (R505). -/
def execExtMovHlXhl (s : State) : Result := endExtended (movePair .hl .xhl s)

/-- `MOV HL, Yhl` after `EXT` (R506). -/
def execExtMovHlYhl (s : State) : Result := endExtended (movePair .hl .yhl s)

/-- `PSH Xhl` after `EXT` (R507). -/
def execExtPshXhl (s : State) : Result := endExtended (pushPair .xhl s)

/-- `PSH Yhl` after `EXT` (R508). -/
def execExtPshYhl (s : State) : Result := endExtended (pushPair .yhl s)

/-- `PSH HL` after `EXT` (R509). -/
def execExtPshHl (s : State) : Result := endExtended (pushPair .hl s)

/-- `PSH PC` after `EXT` (R510). -/
def execExtPshPc (s : State) : Result := endExtended (pushPc s)

/-- `POP Xhl` after `EXT` (R511). -/
def execExtPopXhl (s : State) : Result := endExtended (popPair .xhl s)

/-- `POP Yhl` after `EXT` (R512). -/
def execExtPopYhl (s : State) : Result := endExtended (popPair .yhl s)

/-- `POP HL` after `EXT` (R513). -/
def execExtPopHl (s : State) : Result := endExtended (popPair .hl s)

/-- `POP PC` after `EXT` (R514). -/
def execExtPopPc (s : State) : Result := endExtended (popPc s)

end Sys2Proof.Machine
end

