-- ==== Sys2Proof/Machine/ExtendedAlu.lean ====
section
/-! DEFINITION. Extended arithmetic and logic through Xhl and Yhl, extended columns 0 and 1 (48_extended_alu_load_store.md R460). -/

namespace Sys2Proof.Machine

/-- `ADD (Xhl)` after `EXT` (R462). -/
def execExtAddXhl (s : State) : Result := endExtended (aluOp .add (.mem (.ind .xhl)) s)

/-- `ADD (Yhl)` after `EXT` (R463). -/
def execExtAddYhl (s : State) : Result := endExtended (aluOp .add (.mem (.ind .yhl)) s)

/-- `ADC (Xhl)` after `EXT` (R464). -/
def execExtAdcXhl (s : State) : Result := endExtended (aluOp .adc (.mem (.ind .xhl)) s)

/-- `ADC (Yhl)` after `EXT` (R465). -/
def execExtAdcYhl (s : State) : Result := endExtended (aluOp .adc (.mem (.ind .yhl)) s)

/-- `SUB (Xhl)` after `EXT` (R466). -/
def execExtSubXhl (s : State) : Result := endExtended (aluOp .sub (.mem (.ind .xhl)) s)

/-- `SUB (Yhl)` after `EXT` (R467). -/
def execExtSubYhl (s : State) : Result := endExtended (aluOp .sub (.mem (.ind .yhl)) s)

/-- `SBB (Xhl)` after `EXT` (R468). -/
def execExtSbbXhl (s : State) : Result := endExtended (aluOp .sbb (.mem (.ind .xhl)) s)

/-- `SBB (Yhl)` after `EXT` (R469). -/
def execExtSbbYhl (s : State) : Result := endExtended (aluOp .sbb (.mem (.ind .yhl)) s)

/-- `CMP (Xhl)` after `EXT` (R470). -/
def execExtCmpXhl (s : State) : Result := endExtended (aluOp .cmp (.mem (.ind .xhl)) s)

/-- `CMP (Yhl)` after `EXT` (R471). -/
def execExtCmpYhl (s : State) : Result := endExtended (aluOp .cmp (.mem (.ind .yhl)) s)

/-- `AND (Xhl)` after `EXT` (R472). -/
def execExtAndXhl (s : State) : Result := endExtended (aluOp .and (.mem (.ind .xhl)) s)

/-- `AND (Yhl)` after `EXT` (R473). -/
def execExtAndYhl (s : State) : Result := endExtended (aluOp .and (.mem (.ind .yhl)) s)

/-- `OR (Xhl)` after `EXT` (R474). -/
def execExtOrXhl (s : State) : Result := endExtended (aluOp .or (.mem (.ind .xhl)) s)

/-- `OR (Yhl)` after `EXT` (R475). -/
def execExtOrYhl (s : State) : Result := endExtended (aluOp .or (.mem (.ind .yhl)) s)

/-- `XOR (Xhl)` after `EXT` (R476). -/
def execExtXorXhl (s : State) : Result := endExtended (aluOp .xor (.mem (.ind .xhl)) s)

/-- `XOR (Yhl)` after `EXT` (R477). -/
def execExtXorYhl (s : State) : Result := endExtended (aluOp .xor (.mem (.ind .yhl)) s)

end Sys2Proof.Machine
end

