-- ==== Sys2Proof/Machine/LoadStore.lean ====
section
/-! DEFINITION. Loads and stores, block 2 (46_load_store.md R340, R341). No flag is written. -/

namespace Sys2Proof.Machine

/-- `LD r, source`: the register receives the operand byte (R340). -/
def loadOp (r : Reg) (src : Source) (s : State) : Result :=
  match operandByte src s with
  | .error f => .fault f
  | .ok (b, t) => .next ((t.setReg r b).advance (sourceLength src))

/-- `STR r, destination`: one byte of memory receives the register (R341). -/
def storeOp (r : Reg) (p : Place) (s : State) : Result :=
  match memWrite (effAddr p s) (s.regs.get r) s with
  | .error f => .fault f
  | .ok t => .next (t.advance (placeLength p))

/-- `LD Xh, $hhll` (R342). -/
def execLdXhAbs (b1 b2 : Byte) (s : State) : Result := loadOp .xh (.mem (.abs b1 b2)) s

/-- `LD Xh, $zz` (R343). -/
def execLdXhZp (zz : Byte) (s : State) : Result := loadOp .xh (.mem (.zp zz)) s

/-- `LD Xh, (HL)` (R344). -/
def execLdXhHl (s : State) : Result := loadOp .xh (.mem (.ind .hl)) s

/-- `LD Xh, #$nn` (R345). -/
def execLdXhImm (nn : Byte) (s : State) : Result := loadOp .xh (.imm nn) s

/-- `LD Xl, $hhll` (R346). -/
def execLdXlAbs (b1 b2 : Byte) (s : State) : Result := loadOp .xl (.mem (.abs b1 b2)) s

/-- `LD Xl, $zz` (R347). -/
def execLdXlZp (zz : Byte) (s : State) : Result := loadOp .xl (.mem (.zp zz)) s

/-- `LD Xl, (HL)` (R348). -/
def execLdXlHl (s : State) : Result := loadOp .xl (.mem (.ind .hl)) s

/-- `LD Xl, #$nn` (R349). -/
def execLdXlImm (nn : Byte) (s : State) : Result := loadOp .xl (.imm nn) s

/-- `LD Yh, $hhll` (R350). -/
def execLdYhAbs (b1 b2 : Byte) (s : State) : Result := loadOp .yh (.mem (.abs b1 b2)) s

/-- `LD Yh, $zz` (R351). -/
def execLdYhZp (zz : Byte) (s : State) : Result := loadOp .yh (.mem (.zp zz)) s

/-- `LD Yh, (HL)` (R352). -/
def execLdYhHl (s : State) : Result := loadOp .yh (.mem (.ind .hl)) s

/-- `LD Yh, #$nn` (R353). -/
def execLdYhImm (nn : Byte) (s : State) : Result := loadOp .yh (.imm nn) s

/-- `LD Yl, $hhll` (R354). -/
def execLdYlAbs (b1 b2 : Byte) (s : State) : Result := loadOp .yl (.mem (.abs b1 b2)) s

/-- `LD Yl, $zz` (R355). -/
def execLdYlZp (zz : Byte) (s : State) : Result := loadOp .yl (.mem (.zp zz)) s

/-- `LD Yl, (HL)` (R356). -/
def execLdYlHl (s : State) : Result := loadOp .yl (.mem (.ind .hl)) s

/-- `LD Yl, #$nn` (R357). -/
def execLdYlImm (nn : Byte) (s : State) : Result := loadOp .yl (.imm nn) s

/-- `LD H, $hhll` (R358). -/
def execLdHAbs (b1 b2 : Byte) (s : State) : Result := loadOp .h (.mem (.abs b1 b2)) s

/-- `LD H, $zz` (R359). -/
def execLdHZp (zz : Byte) (s : State) : Result := loadOp .h (.mem (.zp zz)) s

/-- `LD H, #$nn` (R360). -/
def execLdHImm (nn : Byte) (s : State) : Result := loadOp .h (.imm nn) s

/-- `LD L, $hhll` (R361). -/
def execLdLAbs (b1 b2 : Byte) (s : State) : Result := loadOp .l (.mem (.abs b1 b2)) s

/-- `LD L, $zz` (R362). -/
def execLdLZp (zz : Byte) (s : State) : Result := loadOp .l (.mem (.zp zz)) s

/-- `LD L, #$nn` (R363). -/
def execLdLImm (nn : Byte) (s : State) : Result := loadOp .l (.imm nn) s

/-- `LD Acc, $hhll` (R364). -/
def execLdAccAbs (b1 b2 : Byte) (s : State) : Result := loadOp .acc (.mem (.abs b1 b2)) s

/-- `LD Acc, $zz` (R365). -/
def execLdAccZp (zz : Byte) (s : State) : Result := loadOp .acc (.mem (.zp zz)) s

/-- `LD Acc, (HL)` (R366). -/
def execLdAccHl (s : State) : Result := loadOp .acc (.mem (.ind .hl)) s

/-- `LD Acc, #$nn` (R367). -/
def execLdAccImm (nn : Byte) (s : State) : Result := loadOp .acc (.imm nn) s

/-- `LD SP, $hhll` (R368). -/
def execLdSpAbs (b1 b2 : Byte) (s : State) : Result := loadOp .sp (.mem (.abs b1 b2)) s

/-- `LD SP, $zz` (R369). -/
def execLdSpZp (zz : Byte) (s : State) : Result := loadOp .sp (.mem (.zp zz)) s

/-- `LD SP, (HL)` (R370). -/
def execLdSpHl (s : State) : Result := loadOp .sp (.mem (.ind .hl)) s

/-- `LD SP, #$nn` (R371). -/
def execLdSpImm (nn : Byte) (s : State) : Result := loadOp .sp (.imm nn) s

/-- `STR Xh, $hhll` (R372). -/
def execStrXhAbs (b1 b2 : Byte) (s : State) : Result := storeOp .xh (.abs b1 b2) s

/-- `STR Xh, $zz` (R373). -/
def execStrXhZp (zz : Byte) (s : State) : Result := storeOp .xh (.zp zz) s

/-- `STR Xh, (HL)` (R374). -/
def execStrXhHl (s : State) : Result := storeOp .xh (.ind .hl) s

/-- `STR Xl, $hhll` (R375). -/
def execStrXlAbs (b1 b2 : Byte) (s : State) : Result := storeOp .xl (.abs b1 b2) s

/-- `STR Xl, $zz` (R376). -/
def execStrXlZp (zz : Byte) (s : State) : Result := storeOp .xl (.zp zz) s

/-- `STR Xl, (HL)` (R377). -/
def execStrXlHl (s : State) : Result := storeOp .xl (.ind .hl) s

/-- `STR Yh, $hhll` (R378). -/
def execStrYhAbs (b1 b2 : Byte) (s : State) : Result := storeOp .yh (.abs b1 b2) s

/-- `STR Yh, $zz` (R379). -/
def execStrYhZp (zz : Byte) (s : State) : Result := storeOp .yh (.zp zz) s

/-- `STR Yh, (HL)` (R380). -/
def execStrYhHl (s : State) : Result := storeOp .yh (.ind .hl) s

/-- `STR Yl, $hhll` (R381). -/
def execStrYlAbs (b1 b2 : Byte) (s : State) : Result := storeOp .yl (.abs b1 b2) s

/-- `STR Yl, $zz` (R382). -/
def execStrYlZp (zz : Byte) (s : State) : Result := storeOp .yl (.zp zz) s

/-- `STR Yl, (HL)` (R383). -/
def execStrYlHl (s : State) : Result := storeOp .yl (.ind .hl) s

/-- `STR H, $hhll` (R384). -/
def execStrHAbs (b1 b2 : Byte) (s : State) : Result := storeOp .h (.abs b1 b2) s

/-- `STR H, $zz` (R385). -/
def execStrHZp (zz : Byte) (s : State) : Result := storeOp .h (.zp zz) s

/-- `STR L, $hhll` (R386). -/
def execStrLAbs (b1 b2 : Byte) (s : State) : Result := storeOp .l (.abs b1 b2) s

/-- `STR L, $zz` (R387). -/
def execStrLZp (zz : Byte) (s : State) : Result := storeOp .l (.zp zz) s

/-- `STR Acc, $hhll` (R388). -/
def execStrAccAbs (b1 b2 : Byte) (s : State) : Result := storeOp .acc (.abs b1 b2) s

/-- `STR Acc, $zz` (R389). -/
def execStrAccZp (zz : Byte) (s : State) : Result := storeOp .acc (.zp zz) s

/-- `STR Acc, (HL)` (R390). -/
def execStrAccHl (s : State) : Result := storeOp .acc (.ind .hl) s

/-- `STR SP, $hhll` (R391). -/
def execStrSpAbs (b1 b2 : Byte) (s : State) : Result := storeOp .sp (.abs b1 b2) s

/-- `STR SP, $zz` (R392). -/
def execStrSpZp (zz : Byte) (s : State) : Result := storeOp .sp (.zp zz) s

/-- `STR SP, (HL)` (R393). -/
def execStrSpHl (s : State) : Result := storeOp .sp (.ind .hl) s

end Sys2Proof.Machine
end

