-- ==== Sys2Proof/Machine/ExtendedLoadStore.lean ====
section
/-! DEFINITION. Extended loads and stores through Xhl and Yhl, extended columns 2 to 5 (48_extended_alu_load_store.md R461). -/

namespace Sys2Proof.Machine

/-- `LD Xh, (Yhl)` after `EXT` (R478). -/
def execExtLdXhYhl (s : State) : Result := endExtended (loadOp .xh (.mem (.ind .yhl)) s)

/-- `LD Xl, (Yhl)` after `EXT` (R479). -/
def execExtLdXlYhl (s : State) : Result := endExtended (loadOp .xl (.mem (.ind .yhl)) s)

/-- `LD Yh, (Xhl)` after `EXT` (R480). -/
def execExtLdYhXhl (s : State) : Result := endExtended (loadOp .yh (.mem (.ind .xhl)) s)

/-- `LD Yl, (Xhl)` after `EXT` (R481). -/
def execExtLdYlXhl (s : State) : Result := endExtended (loadOp .yl (.mem (.ind .xhl)) s)

/-- `LD H, (Xhl)` after `EXT` (R482). -/
def execExtLdHXhl (s : State) : Result := endExtended (loadOp .h (.mem (.ind .xhl)) s)

/-- `LD H, (Yhl)` after `EXT` (R483). -/
def execExtLdHYhl (s : State) : Result := endExtended (loadOp .h (.mem (.ind .yhl)) s)

/-- `LD L, (Xhl)` after `EXT` (R484). -/
def execExtLdLXhl (s : State) : Result := endExtended (loadOp .l (.mem (.ind .xhl)) s)

/-- `LD L, (Yhl)` after `EXT` (R485). -/
def execExtLdLYhl (s : State) : Result := endExtended (loadOp .l (.mem (.ind .yhl)) s)

/-- `LD Acc, (Xhl)` after `EXT` (R486). -/
def execExtLdAccXhl (s : State) : Result := endExtended (loadOp .acc (.mem (.ind .xhl)) s)

/-- `LD Acc, (Yhl)` after `EXT` (R487). -/
def execExtLdAccYhl (s : State) : Result := endExtended (loadOp .acc (.mem (.ind .yhl)) s)

/-- `STR Xh, (Yhl)` after `EXT` (R488). -/
def execExtStrXhYhl (s : State) : Result := endExtended (storeOp .xh (.ind .yhl) s)

/-- `STR Xl, (Yhl)` after `EXT` (R489). -/
def execExtStrXlYhl (s : State) : Result := endExtended (storeOp .xl (.ind .yhl) s)

/-- `STR Yh, (Xhl)` after `EXT` (R490). -/
def execExtStrYhXhl (s : State) : Result := endExtended (storeOp .yh (.ind .xhl) s)

/-- `STR Yl, (Xhl)` after `EXT` (R491). -/
def execExtStrYlXhl (s : State) : Result := endExtended (storeOp .yl (.ind .xhl) s)

/-- `STR H, (Xhl)` after `EXT` (R492). -/
def execExtStrHXhl (s : State) : Result := endExtended (storeOp .h (.ind .xhl) s)

/-- `STR H, (Yhl)` after `EXT` (R493). -/
def execExtStrHYhl (s : State) : Result := endExtended (storeOp .h (.ind .yhl) s)

/-- `STR L, (Xhl)` after `EXT` (R494). -/
def execExtStrLXhl (s : State) : Result := endExtended (storeOp .l (.ind .xhl) s)

/-- `STR L, (Yhl)` after `EXT` (R495). -/
def execExtStrLYhl (s : State) : Result := endExtended (storeOp .l (.ind .yhl) s)

/-- `STR Acc, (Xhl)` after `EXT` (R496). -/
def execExtStrAccXhl (s : State) : Result := endExtended (storeOp .acc (.ind .xhl) s)

/-- `STR Acc, (Yhl)` after `EXT` (R497). -/
def execExtStrAccYhl (s : State) : Result := endExtended (storeOp .acc (.ind .yhl) s)

end Sys2Proof.Machine
end

