-- ==== Sys2Proof/Machine/Logic.lean ====
section
/-! DEFINITION. Logic, block 1 rows 5 to 7 (45_logic.md R310). C becomes the uninterpreted `logic_carry` (10_state.md R46). -/

namespace Sys2Proof.Machine

/-- `AND $hhll` (R311). -/
def execAndAbs (b1 b2 : Byte) (s : State) : Result := aluOp .and (.mem (.abs b1 b2)) s

/-- `AND $zz` (R312). -/
def execAndZp (zz : Byte) (s : State) : Result := aluOp .and (.mem (.zp zz)) s

/-- `AND (HL)` (R313). -/
def execAndHl (s : State) : Result := aluOp .and (.mem (.ind .hl)) s

/-- `AND #$nn` (R314). -/
def execAndImm (nn : Byte) (s : State) : Result := aluOp .and (.imm nn) s

/-- `AND Xh` (R315). -/
def execAndXh (s : State) : Result := aluOp .and (.reg .xh) s

/-- `AND Xl` (R316). -/
def execAndXl (s : State) : Result := aluOp .and (.reg .xl) s

/-- `AND Yh` (R317). -/
def execAndYh (s : State) : Result := aluOp .and (.reg .yh) s

/-- `AND Yl` (R318). -/
def execAndYl (s : State) : Result := aluOp .and (.reg .yl) s

/-- `OR $hhll` (R319). -/
def execOrAbs (b1 b2 : Byte) (s : State) : Result := aluOp .or (.mem (.abs b1 b2)) s

/-- `OR $zz` (R320). -/
def execOrZp (zz : Byte) (s : State) : Result := aluOp .or (.mem (.zp zz)) s

/-- `OR (HL)` (R321). -/
def execOrHl (s : State) : Result := aluOp .or (.mem (.ind .hl)) s

/-- `OR #$nn` (R322). -/
def execOrImm (nn : Byte) (s : State) : Result := aluOp .or (.imm nn) s

/-- `OR Xh` (R323). -/
def execOrXh (s : State) : Result := aluOp .or (.reg .xh) s

/-- `OR Xl` (R324). -/
def execOrXl (s : State) : Result := aluOp .or (.reg .xl) s

/-- `OR Yh` (R325). -/
def execOrYh (s : State) : Result := aluOp .or (.reg .yh) s

/-- `OR Yl` (R326). -/
def execOrYl (s : State) : Result := aluOp .or (.reg .yl) s

/-- `XOR $hhll` (R327). -/
def execXorAbs (b1 b2 : Byte) (s : State) : Result := aluOp .xor (.mem (.abs b1 b2)) s

/-- `XOR $zz` (R328). -/
def execXorZp (zz : Byte) (s : State) : Result := aluOp .xor (.mem (.zp zz)) s

/-- `XOR (HL)` (R329). -/
def execXorHl (s : State) : Result := aluOp .xor (.mem (.ind .hl)) s

/-- `XOR #$nn` (R330). -/
def execXorImm (nn : Byte) (s : State) : Result := aluOp .xor (.imm nn) s

/-- `XOR Xh` (R331). -/
def execXorXh (s : State) : Result := aluOp .xor (.reg .xh) s

/-- `XOR Xl` (R332). -/
def execXorXl (s : State) : Result := aluOp .xor (.reg .xl) s

/-- `XOR Yh` (R333). -/
def execXorYh (s : State) : Result := aluOp .xor (.reg .yh) s

/-- `XOR Yl` (R334). -/
def execXorYl (s : State) : Result := aluOp .xor (.reg .yl) s

end Sys2Proof.Machine
end

