-- ==== Sys2Proof/Machine/MachineControl.lean ====
section
/-! DEFINITION. Machine control, block 0 column 0 (40_machine_control.md R140): flag clears, the `EXT` latch, `HLT`. -/

namespace Sys2Proof.Machine

/-- `NIN` (R141). -/
def execNin (s : State) : Result := .next (s.advance 1)

/-- `CLC` (R142). -/
def execClc (s : State) : Result := .next ((s.setFlags { s.flags with c := false }).advance 1)

/-- `CLN` (R143). -/
def execCln (s : State) : Result := .next ((s.setFlags { s.flags with n := false }).advance 1)

/-- `CLZ` (R144). -/
def execClz (s : State) : Result := .next ((s.setFlags { s.flags with z := false }).advance 1)

/-- `CLI` (R145). -/
def execCli (s : State) : Result := .next ((s.setFlags { s.flags with i := false }).advance 1)

/-- `CLF` (R146). -/
def execClf (s : State) : Result := .next ((s.setFlags { c := false, n := false, z := false, i := false }).advance 1)

/-- `EXT` (R147). -/
def execExt (s : State) : Result := .next ((s.setExt true).advance 1)

/-- `HLT` (R148). -/
def execHlt (s : State) : Result := .next ((s.setRun .halted).advance 1)

end Sys2Proof.Machine
end

