-- ==== Sys2Proof/Machine/Move.lean ====
section
/-! DEFINITION. Register moves, block 3 (47_move.md R400): `MOV source, destination`. No flag is written. -/

namespace Sys2Proof.Machine

/-- `MOV s, d`: `x[d] <- x[s]` (R400). -/
def moveReg (src dst : Reg) (s : State) : Result := .next ((s.setReg dst (s.regs.get src)).advance 1)

/-- `MOV Xh, Xl` (R401). -/
def execMovXhXl (s : State) : Result := moveReg .xh .xl s

/-- `MOV Xh, Yh` (R402). -/
def execMovXhYh (s : State) : Result := moveReg .xh .yh s

/-- `MOV Xh, Yl` (R403). -/
def execMovXhYl (s : State) : Result := moveReg .xh .yl s

/-- `MOV Xh, H` (R404). -/
def execMovXhH (s : State) : Result := moveReg .xh .h s

/-- `MOV Xh, L` (R405). -/
def execMovXhL (s : State) : Result := moveReg .xh .l s

/-- `MOV Xh, Acc` (R406). -/
def execMovXhAcc (s : State) : Result := moveReg .xh .acc s

/-- `MOV Xh, SP` (R407). -/
def execMovXhSp (s : State) : Result := moveReg .xh .sp s

/-- `MOV Xl, Xh` (R408). -/
def execMovXlXh (s : State) : Result := moveReg .xl .xh s

/-- `MOV Xl, Yh` (R409). -/
def execMovXlYh (s : State) : Result := moveReg .xl .yh s

/-- `MOV Xl, Yl` (R410). -/
def execMovXlYl (s : State) : Result := moveReg .xl .yl s

/-- `MOV Xl, H` (R411). -/
def execMovXlH (s : State) : Result := moveReg .xl .h s

/-- `MOV Xl, L` (R412). -/
def execMovXlL (s : State) : Result := moveReg .xl .l s

/-- `MOV Xl, Acc` (R413). -/
def execMovXlAcc (s : State) : Result := moveReg .xl .acc s

/-- `MOV Xl, SP` (R414). -/
def execMovXlSp (s : State) : Result := moveReg .xl .sp s

/-- `MOV Yh, Xh` (R415). -/
def execMovYhXh (s : State) : Result := moveReg .yh .xh s

/-- `MOV Yh, Xl` (R416). -/
def execMovYhXl (s : State) : Result := moveReg .yh .xl s

/-- `MOV Yh, Yl` (R417). -/
def execMovYhYl (s : State) : Result := moveReg .yh .yl s

/-- `MOV Yh, H` (R418). -/
def execMovYhH (s : State) : Result := moveReg .yh .h s

/-- `MOV Yh, L` (R419). -/
def execMovYhL (s : State) : Result := moveReg .yh .l s

/-- `MOV Yh, Acc` (R420). -/
def execMovYhAcc (s : State) : Result := moveReg .yh .acc s

/-- `MOV Yh, SP` (R421). -/
def execMovYhSp (s : State) : Result := moveReg .yh .sp s

/-- `MOV Yl, Xh` (R422). -/
def execMovYlXh (s : State) : Result := moveReg .yl .xh s

/-- `MOV Yl, Xl` (R423). -/
def execMovYlXl (s : State) : Result := moveReg .yl .xl s

/-- `MOV Yl, Yh` (R424). -/
def execMovYlYh (s : State) : Result := moveReg .yl .yh s

/-- `MOV Yl, H` (R425). -/
def execMovYlH (s : State) : Result := moveReg .yl .h s

/-- `MOV Yl, L` (R426). -/
def execMovYlL (s : State) : Result := moveReg .yl .l s

/-- `MOV Yl, Acc` (R427). -/
def execMovYlAcc (s : State) : Result := moveReg .yl .acc s

/-- `MOV Yl, SP` (R428). -/
def execMovYlSp (s : State) : Result := moveReg .yl .sp s

/-- `MOV H, Xh` (R429). -/
def execMovHXh (s : State) : Result := moveReg .h .xh s

/-- `MOV H, Xl` (R430). -/
def execMovHXl (s : State) : Result := moveReg .h .xl s

/-- `MOV H, Yh` (R431). -/
def execMovHYh (s : State) : Result := moveReg .h .yh s

/-- `MOV H, Yl` (R432). -/
def execMovHYl (s : State) : Result := moveReg .h .yl s

/-- `MOV H, L` (R433). -/
def execMovHL (s : State) : Result := moveReg .h .l s

/-- `MOV H, Acc` (R434). -/
def execMovHAcc (s : State) : Result := moveReg .h .acc s

/-- `MOV H, SP` (R435). -/
def execMovHSp (s : State) : Result := moveReg .h .sp s

/-- `MOV L, Xh` (R436). -/
def execMovLXh (s : State) : Result := moveReg .l .xh s

/-- `MOV L, Xl` (R437). -/
def execMovLXl (s : State) : Result := moveReg .l .xl s

/-- `MOV L, Yh` (R438). -/
def execMovLYh (s : State) : Result := moveReg .l .yh s

/-- `MOV L, Yl` (R439). -/
def execMovLYl (s : State) : Result := moveReg .l .yl s

/-- `MOV L, H` (R440). -/
def execMovLH (s : State) : Result := moveReg .l .h s

/-- `MOV L, Acc` (R441). -/
def execMovLAcc (s : State) : Result := moveReg .l .acc s

/-- `MOV L, SP` (R442). -/
def execMovLSp (s : State) : Result := moveReg .l .sp s

/-- `MOV Acc, Xh` (R443). -/
def execMovAccXh (s : State) : Result := moveReg .acc .xh s

/-- `MOV Acc, Xl` (R444). -/
def execMovAccXl (s : State) : Result := moveReg .acc .xl s

/-- `MOV Acc, Yh` (R445). -/
def execMovAccYh (s : State) : Result := moveReg .acc .yh s

/-- `MOV Acc, Yl` (R446). -/
def execMovAccYl (s : State) : Result := moveReg .acc .yl s

/-- `MOV Acc, H` (R447). -/
def execMovAccH (s : State) : Result := moveReg .acc .h s

/-- `MOV Acc, L` (R448). -/
def execMovAccL (s : State) : Result := moveReg .acc .l s

/-- `MOV Acc, SP` (R449). -/
def execMovAccSp (s : State) : Result := moveReg .acc .sp s

/-- `MOV SP, Xh` (R450). -/
def execMovSpXh (s : State) : Result := moveReg .sp .xh s

/-- `MOV SP, Xl` (R451). -/
def execMovSpXl (s : State) : Result := moveReg .sp .xl s

/-- `MOV SP, Yh` (R452). -/
def execMovSpYh (s : State) : Result := moveReg .sp .yh s

/-- `MOV SP, Yl` (R453). -/
def execMovSpYl (s : State) : Result := moveReg .sp .yl s

/-- `MOV SP, H` (R454). -/
def execMovSpH (s : State) : Result := moveReg .sp .h s

/-- `MOV SP, L` (R455). -/
def execMovSpL (s : State) : Result := moveReg .sp .l s

/-- `MOV SP, Acc` (R456). -/
def execMovSpAcc (s : State) : Result := moveReg .sp .acc s

end Sys2Proof.Machine
end

