-- ==== Sys2Proof/Machine/ProgramFlow.lean ====
section
/-! DEFINITION. Program flow, block 0 columns 1 to 3 (41_program_flow.md R160, R161): `JMP`, `JSR`, `RTN` under a condition. The operand
bytes have been fetched whether or not the condition holds. -/

namespace Sys2Proof.Machine

/-- `JMP k`: `pc` becomes the target if the condition holds, else the next instruction (R160, R162). -/
def jumpIf (k : Cond) (b1 b2 : Byte) (s : State) : Result :=
  .next (if condHolds k s.flags then s.setPc (absOperand s.cfg b1 b2) else s.advance 3)

/-- `JSR k`: if the condition holds, push the address of the next instruction and go to the target (R160, R170). -/
def callIf (k : Cond) (b1 b2 : Byte) (s : State) : Result :=
  if condHolds k s.flags then
    match push16 (s.pc + 3#16) s with
    | .error f => .fault f
    | .ok t => .next (t.setPc (absOperand s.cfg b1 b2))
  else .next (s.advance 3)

/-- `RTN k`: if the condition holds, pop `pc` (R160, R178). -/
def returnIf (k : Cond) (s : State) : Result :=
  if condHolds k s.flags then
    match pop16 s with
    | .error f => .fault f
    | .ok (v, t) => .next (t.setPc v)
  else .next (s.advance 1)

/-- `JMP u, $hhll` (R162). -/
def execJmpU (b1 b2 : Byte) (s : State) : Result := jumpIf .u b1 b2 s

/-- `JMP c, $hhll` (R163). -/
def execJmpC (b1 b2 : Byte) (s : State) : Result := jumpIf .c b1 b2 s

/-- `JMP n, $hhll` (R164). -/
def execJmpN (b1 b2 : Byte) (s : State) : Result := jumpIf .n b1 b2 s

/-- `JMP z, $hhll` (R165). -/
def execJmpZ (b1 b2 : Byte) (s : State) : Result := jumpIf .z b1 b2 s

/-- `JMP nc, $hhll` (R166). -/
def execJmpNc (b1 b2 : Byte) (s : State) : Result := jumpIf .nc b1 b2 s

/-- `JMP nn, $hhll` (R167). -/
def execJmpNn (b1 b2 : Byte) (s : State) : Result := jumpIf .nn b1 b2 s

/-- `JMP nz, $hhll` (R168). -/
def execJmpNz (b1 b2 : Byte) (s : State) : Result := jumpIf .nz b1 b2 s

/-- `JMP i, $hhll` (R169). -/
def execJmpI (b1 b2 : Byte) (s : State) : Result := jumpIf .i b1 b2 s

/-- `JSR u, $hhll` (R170). -/
def execJsrU (b1 b2 : Byte) (s : State) : Result := callIf .u b1 b2 s

/-- `JSR c, $hhll` (R171). -/
def execJsrC (b1 b2 : Byte) (s : State) : Result := callIf .c b1 b2 s

/-- `JSR n, $hhll` (R172). -/
def execJsrN (b1 b2 : Byte) (s : State) : Result := callIf .n b1 b2 s

/-- `JSR z, $hhll` (R173). -/
def execJsrZ (b1 b2 : Byte) (s : State) : Result := callIf .z b1 b2 s

/-- `JSR nc, $hhll` (R174). -/
def execJsrNc (b1 b2 : Byte) (s : State) : Result := callIf .nc b1 b2 s

/-- `JSR nn, $hhll` (R175). -/
def execJsrNn (b1 b2 : Byte) (s : State) : Result := callIf .nn b1 b2 s

/-- `JSR nz, $hhll` (R176). -/
def execJsrNz (b1 b2 : Byte) (s : State) : Result := callIf .nz b1 b2 s

/-- `JSR i, $hhll` (R177). -/
def execJsrI (b1 b2 : Byte) (s : State) : Result := callIf .i b1 b2 s

/-- `RTN u` (R178). -/
def execRtnU (s : State) : Result := returnIf .u s

/-- `RTN c` (R179). -/
def execRtnC (s : State) : Result := returnIf .c s

/-- `RTN n` (R180). -/
def execRtnN (s : State) : Result := returnIf .n s

/-- `RTN z` (R181). -/
def execRtnZ (s : State) : Result := returnIf .z s

/-- `RTN nc` (R182). -/
def execRtnNc (s : State) : Result := returnIf .nc s

/-- `RTN nn` (R183). -/
def execRtnNn (s : State) : Result := returnIf .nn s

/-- `RTN nz` (R184). -/
def execRtnNz (s : State) : Result := returnIf .nz s

end Sys2Proof.Machine
end

