-- ==== Sys2Proof/Machine/StackAndPairs.lean ====
section
/-! DEFINITION. Pushes and pops of one register, increments and decrements of a pair, block 0 columns 4 to 6
(42_stack_and_double_register.md R200, R201). -/

namespace Sys2Proof.Machine

/-- `PSH r`: `Push8` of the register (R200, 20_memory.md R76). -/
def pushReg (r : Reg) (s : State) : Result :=
  match push8 (s.regs.get r) s with
  | .error f => .fault f
  | .ok t => .next (t.advance 1)

/-- `POP r`: the register receives `Pop8` (R200, 20_memory.md R77). No flag is written. -/
def popReg (r : Reg) (s : State) : Result :=
  match pop8 s with
  | .error f => .fault f
  | .ok (b, t) => .next ((t.setReg r b).advance 1)

/-- `INC` of a pair, modulo 2^16; no flag is written (R201). -/
def incrementPair (p : Pair) (s : State) : Result := .next ((s.setPair p (s.regs.getPair p + 1#16)).advance 1)

/-- `DEC` of a pair, modulo 2^16; no flag is written (R201). -/
def decrementPair (p : Pair) (s : State) : Result := .next ((s.setPair p (s.regs.getPair p - 1#16)).advance 1)

/-- `PSH Xh` (R202). -/
def execPshXh (s : State) : Result := pushReg .xh s

/-- `PSH Xl` (R203). -/
def execPshXl (s : State) : Result := pushReg .xl s

/-- `PSH Yh` (R204). -/
def execPshYh (s : State) : Result := pushReg .yh s

/-- `PSH Yl` (R205). -/
def execPshYl (s : State) : Result := pushReg .yl s

/-- `PSH H` (R206). -/
def execPshH (s : State) : Result := pushReg .h s

/-- `PSH L` (R207). -/
def execPshL (s : State) : Result := pushReg .l s

/-- `PSH Acc` (R208). -/
def execPshAcc (s : State) : Result := pushReg .acc s

/-- `POP Xh` (R209). -/
def execPopXh (s : State) : Result := popReg .xh s

/-- `POP Xl` (R210). -/
def execPopXl (s : State) : Result := popReg .xl s

/-- `POP Yh` (R211). -/
def execPopYh (s : State) : Result := popReg .yh s

/-- `POP Yl` (R212). -/
def execPopYl (s : State) : Result := popReg .yl s

/-- `POP H` (R213). -/
def execPopH (s : State) : Result := popReg .h s

/-- `POP L` (R214). -/
def execPopL (s : State) : Result := popReg .l s

/-- `POP Acc` (R215). -/
def execPopAcc (s : State) : Result := popReg .acc s

/-- `INC Xhl` (R216). -/
def execIncXhl (s : State) : Result := incrementPair .xhl s

/-- `INC Yhl` (R217). -/
def execIncYhl (s : State) : Result := incrementPair .yhl s

/-- `INC HL` (R218). -/
def execIncHl (s : State) : Result := incrementPair .hl s

/-- `DEC Xhl` (R219). -/
def execDecXhl (s : State) : Result := decrementPair .xhl s

/-- `DEC Yhl` (R220). -/
def execDecYhl (s : State) : Result := decrementPair .yhl s

/-- `DEC HL` (R221). -/
def execDecHl (s : State) : Result := decrementPair .hl s

end Sys2Proof.Machine
end

