-- ==== Sys2Proof/Machine/Dispatch.lean ====
section
/-! DEFINITION. The meaning of every instruction: one arm per constructor of Instr, in the order of the opcode table. -/

namespace Sys2Proof.Machine

def exec (i : Instr) (s : State) : Host.Outcome State Fault Refusal :=
  match i with
  | .nin => Sys2Proof.Machine.execNin s
  | .clc => Sys2Proof.Machine.execClc s
  | .cln => Sys2Proof.Machine.execCln s
  | .clz => Sys2Proof.Machine.execClz s
  | .cli => Sys2Proof.Machine.execCli s
  | .clf => Sys2Proof.Machine.execClf s
  | .ext => Sys2Proof.Machine.execExt s
  | .hlt => Sys2Proof.Machine.execHlt s
  | .jmpU b1 b2 => Sys2Proof.Machine.execJmpU b1 b2 s
  | .jmpC b1 b2 => Sys2Proof.Machine.execJmpC b1 b2 s
  | .jmpN b1 b2 => Sys2Proof.Machine.execJmpN b1 b2 s
  | .jmpZ b1 b2 => Sys2Proof.Machine.execJmpZ b1 b2 s
  | .jmpNc b1 b2 => Sys2Proof.Machine.execJmpNc b1 b2 s
  | .jmpNn b1 b2 => Sys2Proof.Machine.execJmpNn b1 b2 s
  | .jmpNz b1 b2 => Sys2Proof.Machine.execJmpNz b1 b2 s
  | .jmpI b1 b2 => Sys2Proof.Machine.execJmpI b1 b2 s
  | .jsrU b1 b2 => Sys2Proof.Machine.execJsrU b1 b2 s
  | .jsrC b1 b2 => Sys2Proof.Machine.execJsrC b1 b2 s
  | .jsrN b1 b2 => Sys2Proof.Machine.execJsrN b1 b2 s
  | .jsrZ b1 b2 => Sys2Proof.Machine.execJsrZ b1 b2 s
  | .jsrNc b1 b2 => Sys2Proof.Machine.execJsrNc b1 b2 s
  | .jsrNn b1 b2 => Sys2Proof.Machine.execJsrNn b1 b2 s
  | .jsrNz b1 b2 => Sys2Proof.Machine.execJsrNz b1 b2 s
  | .jsrI b1 b2 => Sys2Proof.Machine.execJsrI b1 b2 s
  | .rtnU => Sys2Proof.Machine.execRtnU s
  | .rtnC => Sys2Proof.Machine.execRtnC s
  | .rtnN => Sys2Proof.Machine.execRtnN s
  | .rtnZ => Sys2Proof.Machine.execRtnZ s
  | .rtnNc => Sys2Proof.Machine.execRtnNc s
  | .rtnNn => Sys2Proof.Machine.execRtnNn s
  | .rtnNz => Sys2Proof.Machine.execRtnNz s
  | .pshXh => Sys2Proof.Machine.execPshXh s
  | .pshXl => Sys2Proof.Machine.execPshXl s
  | .pshYh => Sys2Proof.Machine.execPshYh s
  | .pshYl => Sys2Proof.Machine.execPshYl s
  | .pshH => Sys2Proof.Machine.execPshH s
  | .pshL => Sys2Proof.Machine.execPshL s
  | .pshAcc => Sys2Proof.Machine.execPshAcc s
  | .popXh => Sys2Proof.Machine.execPopXh s
  | .popXl => Sys2Proof.Machine.execPopXl s
  | .popYh => Sys2Proof.Machine.execPopYh s
  | .popYl => Sys2Proof.Machine.execPopYl s
  | .popH => Sys2Proof.Machine.execPopH s
  | .popL => Sys2Proof.Machine.execPopL s
  | .popAcc => Sys2Proof.Machine.execPopAcc s
  | .incXhl => Sys2Proof.Machine.execIncXhl s
  | .incYhl => Sys2Proof.Machine.execIncYhl s
  | .incHl => Sys2Proof.Machine.execIncHl s
  | .decXhl => Sys2Proof.Machine.execDecXhl s
  | .decYhl => Sys2Proof.Machine.execDecYhl s
  | .decHl => Sys2Proof.Machine.execDecHl s
  | .incAcc => Sys2Proof.Machine.execIncAcc s
  | .decAcc => Sys2Proof.Machine.execDecAcc s
  | .rorAcc => Sys2Proof.Machine.execRorAcc s
  | .rolAcc => Sys2Proof.Machine.execRolAcc s
  | .rshAcc => Sys2Proof.Machine.execRshAcc s
  | .lshAcc => Sys2Proof.Machine.execLshAcc s
  | .notAcc => Sys2Proof.Machine.execNotAcc s
  | .addAbs b1 b2 => Sys2Proof.Machine.execAddAbs b1 b2 s
  | .addZp zz => Sys2Proof.Machine.execAddZp zz s
  | .addHl => Sys2Proof.Machine.execAddHl s
  | .addImm nn => Sys2Proof.Machine.execAddImm nn s
  | .addXh => Sys2Proof.Machine.execAddXh s
  | .addXl => Sys2Proof.Machine.execAddXl s
  | .addYh => Sys2Proof.Machine.execAddYh s
  | .addYl => Sys2Proof.Machine.execAddYl s
  | .adcAbs b1 b2 => Sys2Proof.Machine.execAdcAbs b1 b2 s
  | .adcZp zz => Sys2Proof.Machine.execAdcZp zz s
  | .adcHl => Sys2Proof.Machine.execAdcHl s
  | .adcImm nn => Sys2Proof.Machine.execAdcImm nn s
  | .adcXh => Sys2Proof.Machine.execAdcXh s
  | .adcXl => Sys2Proof.Machine.execAdcXl s
  | .adcYh => Sys2Proof.Machine.execAdcYh s
  | .adcYl => Sys2Proof.Machine.execAdcYl s
  | .subAbs b1 b2 => Sys2Proof.Machine.execSubAbs b1 b2 s
  | .subZp zz => Sys2Proof.Machine.execSubZp zz s
  | .subHl => Sys2Proof.Machine.execSubHl s
  | .subImm nn => Sys2Proof.Machine.execSubImm nn s
  | .subXh => Sys2Proof.Machine.execSubXh s
  | .subXl => Sys2Proof.Machine.execSubXl s
  | .subYh => Sys2Proof.Machine.execSubYh s
  | .subYl => Sys2Proof.Machine.execSubYl s
  | .sbbAbs b1 b2 => Sys2Proof.Machine.execSbbAbs b1 b2 s
  | .sbbZp zz => Sys2Proof.Machine.execSbbZp zz s
  | .sbbHl => Sys2Proof.Machine.execSbbHl s
  | .sbbImm nn => Sys2Proof.Machine.execSbbImm nn s
  | .sbbXh => Sys2Proof.Machine.execSbbXh s
  | .sbbXl => Sys2Proof.Machine.execSbbXl s
  | .sbbYh => Sys2Proof.Machine.execSbbYh s
  | .sbbYl => Sys2Proof.Machine.execSbbYl s
  | .cmpAbs b1 b2 => Sys2Proof.Machine.execCmpAbs b1 b2 s
  | .cmpZp zz => Sys2Proof.Machine.execCmpZp zz s
  | .cmpHl => Sys2Proof.Machine.execCmpHl s
  | .cmpImm nn => Sys2Proof.Machine.execCmpImm nn s
  | .cmpXh => Sys2Proof.Machine.execCmpXh s
  | .cmpXl => Sys2Proof.Machine.execCmpXl s
  | .cmpYh => Sys2Proof.Machine.execCmpYh s
  | .cmpYl => Sys2Proof.Machine.execCmpYl s
  | .andAbs b1 b2 => Sys2Proof.Machine.execAndAbs b1 b2 s
  | .andZp zz => Sys2Proof.Machine.execAndZp zz s
  | .andHl => Sys2Proof.Machine.execAndHl s
  | .andImm nn => Sys2Proof.Machine.execAndImm nn s
  | .andXh => Sys2Proof.Machine.execAndXh s
  | .andXl => Sys2Proof.Machine.execAndXl s
  | .andYh => Sys2Proof.Machine.execAndYh s
  | .andYl => Sys2Proof.Machine.execAndYl s
  | .orAbs b1 b2 => Sys2Proof.Machine.execOrAbs b1 b2 s
  | .orZp zz => Sys2Proof.Machine.execOrZp zz s
  | .orHl => Sys2Proof.Machine.execOrHl s
  | .orImm nn => Sys2Proof.Machine.execOrImm nn s
  | .orXh => Sys2Proof.Machine.execOrXh s
  | .orXl => Sys2Proof.Machine.execOrXl s
  | .orYh => Sys2Proof.Machine.execOrYh s
  | .orYl => Sys2Proof.Machine.execOrYl s
  | .xorAbs b1 b2 => Sys2Proof.Machine.execXorAbs b1 b2 s
  | .xorZp zz => Sys2Proof.Machine.execXorZp zz s
  | .xorHl => Sys2Proof.Machine.execXorHl s
  | .xorImm nn => Sys2Proof.Machine.execXorImm nn s
  | .xorXh => Sys2Proof.Machine.execXorXh s
  | .xorXl => Sys2Proof.Machine.execXorXl s
  | .xorYh => Sys2Proof.Machine.execXorYh s
  | .xorYl => Sys2Proof.Machine.execXorYl s
  | .ldXhAbs b1 b2 => Sys2Proof.Machine.execLdXhAbs b1 b2 s
  | .ldXhZp zz => Sys2Proof.Machine.execLdXhZp zz s
  | .ldXhHl => Sys2Proof.Machine.execLdXhHl s
  | .ldXhImm nn => Sys2Proof.Machine.execLdXhImm nn s
  | .ldXlAbs b1 b2 => Sys2Proof.Machine.execLdXlAbs b1 b2 s
  | .ldXlZp zz => Sys2Proof.Machine.execLdXlZp zz s
  | .ldXlHl => Sys2Proof.Machine.execLdXlHl s
  | .ldXlImm nn => Sys2Proof.Machine.execLdXlImm nn s
  | .ldYhAbs b1 b2 => Sys2Proof.Machine.execLdYhAbs b1 b2 s
  | .ldYhZp zz => Sys2Proof.Machine.execLdYhZp zz s
  | .ldYhHl => Sys2Proof.Machine.execLdYhHl s
  | .ldYhImm nn => Sys2Proof.Machine.execLdYhImm nn s
  | .ldYlAbs b1 b2 => Sys2Proof.Machine.execLdYlAbs b1 b2 s
  | .ldYlZp zz => Sys2Proof.Machine.execLdYlZp zz s
  | .ldYlHl => Sys2Proof.Machine.execLdYlHl s
  | .ldYlImm nn => Sys2Proof.Machine.execLdYlImm nn s
  | .ldHAbs b1 b2 => Sys2Proof.Machine.execLdHAbs b1 b2 s
  | .ldHZp zz => Sys2Proof.Machine.execLdHZp zz s
  | .ldHImm nn => Sys2Proof.Machine.execLdHImm nn s
  | .ldLAbs b1 b2 => Sys2Proof.Machine.execLdLAbs b1 b2 s
  | .ldLZp zz => Sys2Proof.Machine.execLdLZp zz s
  | .ldLImm nn => Sys2Proof.Machine.execLdLImm nn s
  | .ldAccAbs b1 b2 => Sys2Proof.Machine.execLdAccAbs b1 b2 s
  | .ldAccZp zz => Sys2Proof.Machine.execLdAccZp zz s
  | .ldAccHl => Sys2Proof.Machine.execLdAccHl s
  | .ldAccImm nn => Sys2Proof.Machine.execLdAccImm nn s
  | .ldSpAbs b1 b2 => Sys2Proof.Machine.execLdSpAbs b1 b2 s
  | .ldSpZp zz => Sys2Proof.Machine.execLdSpZp zz s
  | .ldSpHl => Sys2Proof.Machine.execLdSpHl s
  | .ldSpImm nn => Sys2Proof.Machine.execLdSpImm nn s
  | .strXhAbs b1 b2 => Sys2Proof.Machine.execStrXhAbs b1 b2 s
  | .strXhZp zz => Sys2Proof.Machine.execStrXhZp zz s
  | .strXhHl => Sys2Proof.Machine.execStrXhHl s
  | .strXlAbs b1 b2 => Sys2Proof.Machine.execStrXlAbs b1 b2 s
  | .strXlZp zz => Sys2Proof.Machine.execStrXlZp zz s
  | .strXlHl => Sys2Proof.Machine.execStrXlHl s
  | .strYhAbs b1 b2 => Sys2Proof.Machine.execStrYhAbs b1 b2 s
  | .strYhZp zz => Sys2Proof.Machine.execStrYhZp zz s
  | .strYhHl => Sys2Proof.Machine.execStrYhHl s
  | .strYlAbs b1 b2 => Sys2Proof.Machine.execStrYlAbs b1 b2 s
  | .strYlZp zz => Sys2Proof.Machine.execStrYlZp zz s
  | .strYlHl => Sys2Proof.Machine.execStrYlHl s
  | .strHAbs b1 b2 => Sys2Proof.Machine.execStrHAbs b1 b2 s
  | .strHZp zz => Sys2Proof.Machine.execStrHZp zz s
  | .strLAbs b1 b2 => Sys2Proof.Machine.execStrLAbs b1 b2 s
  | .strLZp zz => Sys2Proof.Machine.execStrLZp zz s
  | .strAccAbs b1 b2 => Sys2Proof.Machine.execStrAccAbs b1 b2 s
  | .strAccZp zz => Sys2Proof.Machine.execStrAccZp zz s
  | .strAccHl => Sys2Proof.Machine.execStrAccHl s
  | .strSpAbs b1 b2 => Sys2Proof.Machine.execStrSpAbs b1 b2 s
  | .strSpZp zz => Sys2Proof.Machine.execStrSpZp zz s
  | .strSpHl => Sys2Proof.Machine.execStrSpHl s
  | .movXhXl => Sys2Proof.Machine.execMovXhXl s
  | .movXhYh => Sys2Proof.Machine.execMovXhYh s
  | .movXhYl => Sys2Proof.Machine.execMovXhYl s
  | .movXhH => Sys2Proof.Machine.execMovXhH s
  | .movXhL => Sys2Proof.Machine.execMovXhL s
  | .movXhAcc => Sys2Proof.Machine.execMovXhAcc s
  | .movXhSp => Sys2Proof.Machine.execMovXhSp s
  | .movXlXh => Sys2Proof.Machine.execMovXlXh s
  | .movXlYh => Sys2Proof.Machine.execMovXlYh s
  | .movXlYl => Sys2Proof.Machine.execMovXlYl s
  | .movXlH => Sys2Proof.Machine.execMovXlH s
  | .movXlL => Sys2Proof.Machine.execMovXlL s
  | .movXlAcc => Sys2Proof.Machine.execMovXlAcc s
  | .movXlSp => Sys2Proof.Machine.execMovXlSp s
  | .movYhXh => Sys2Proof.Machine.execMovYhXh s
  | .movYhXl => Sys2Proof.Machine.execMovYhXl s
  | .movYhYl => Sys2Proof.Machine.execMovYhYl s
  | .movYhH => Sys2Proof.Machine.execMovYhH s
  | .movYhL => Sys2Proof.Machine.execMovYhL s
  | .movYhAcc => Sys2Proof.Machine.execMovYhAcc s
  | .movYhSp => Sys2Proof.Machine.execMovYhSp s
  | .movYlXh => Sys2Proof.Machine.execMovYlXh s
  | .movYlXl => Sys2Proof.Machine.execMovYlXl s
  | .movYlYh => Sys2Proof.Machine.execMovYlYh s
  | .movYlH => Sys2Proof.Machine.execMovYlH s
  | .movYlL => Sys2Proof.Machine.execMovYlL s
  | .movYlAcc => Sys2Proof.Machine.execMovYlAcc s
  | .movYlSp => Sys2Proof.Machine.execMovYlSp s
  | .movHXh => Sys2Proof.Machine.execMovHXh s
  | .movHXl => Sys2Proof.Machine.execMovHXl s
  | .movHYh => Sys2Proof.Machine.execMovHYh s
  | .movHYl => Sys2Proof.Machine.execMovHYl s
  | .movHL => Sys2Proof.Machine.execMovHL s
  | .movHAcc => Sys2Proof.Machine.execMovHAcc s
  | .movHSp => Sys2Proof.Machine.execMovHSp s
  | .movLXh => Sys2Proof.Machine.execMovLXh s
  | .movLXl => Sys2Proof.Machine.execMovLXl s
  | .movLYh => Sys2Proof.Machine.execMovLYh s
  | .movLYl => Sys2Proof.Machine.execMovLYl s
  | .movLH => Sys2Proof.Machine.execMovLH s
  | .movLAcc => Sys2Proof.Machine.execMovLAcc s
  | .movLSp => Sys2Proof.Machine.execMovLSp s
  | .movAccXh => Sys2Proof.Machine.execMovAccXh s
  | .movAccXl => Sys2Proof.Machine.execMovAccXl s
  | .movAccYh => Sys2Proof.Machine.execMovAccYh s
  | .movAccYl => Sys2Proof.Machine.execMovAccYl s
  | .movAccH => Sys2Proof.Machine.execMovAccH s
  | .movAccL => Sys2Proof.Machine.execMovAccL s
  | .movAccSp => Sys2Proof.Machine.execMovAccSp s
  | .movSpXh => Sys2Proof.Machine.execMovSpXh s
  | .movSpXl => Sys2Proof.Machine.execMovSpXl s
  | .movSpYh => Sys2Proof.Machine.execMovSpYh s
  | .movSpYl => Sys2Proof.Machine.execMovSpYl s
  | .movSpH => Sys2Proof.Machine.execMovSpH s
  | .movSpL => Sys2Proof.Machine.execMovSpL s
  | .movSpAcc => Sys2Proof.Machine.execMovSpAcc s
  | .extAddXhl => Sys2Proof.Machine.execExtAddXhl s
  | .extAddYhl => Sys2Proof.Machine.execExtAddYhl s
  | .extAdcXhl => Sys2Proof.Machine.execExtAdcXhl s
  | .extAdcYhl => Sys2Proof.Machine.execExtAdcYhl s
  | .extSubXhl => Sys2Proof.Machine.execExtSubXhl s
  | .extSubYhl => Sys2Proof.Machine.execExtSubYhl s
  | .extSbbXhl => Sys2Proof.Machine.execExtSbbXhl s
  | .extSbbYhl => Sys2Proof.Machine.execExtSbbYhl s
  | .extCmpXhl => Sys2Proof.Machine.execExtCmpXhl s
  | .extCmpYhl => Sys2Proof.Machine.execExtCmpYhl s
  | .extAndXhl => Sys2Proof.Machine.execExtAndXhl s
  | .extAndYhl => Sys2Proof.Machine.execExtAndYhl s
  | .extOrXhl => Sys2Proof.Machine.execExtOrXhl s
  | .extOrYhl => Sys2Proof.Machine.execExtOrYhl s
  | .extXorXhl => Sys2Proof.Machine.execExtXorXhl s
  | .extXorYhl => Sys2Proof.Machine.execExtXorYhl s
  | .extLdXhYhl => Sys2Proof.Machine.execExtLdXhYhl s
  | .extLdXlYhl => Sys2Proof.Machine.execExtLdXlYhl s
  | .extLdYhXhl => Sys2Proof.Machine.execExtLdYhXhl s
  | .extLdYlXhl => Sys2Proof.Machine.execExtLdYlXhl s
  | .extLdHXhl => Sys2Proof.Machine.execExtLdHXhl s
  | .extLdHYhl => Sys2Proof.Machine.execExtLdHYhl s
  | .extLdLXhl => Sys2Proof.Machine.execExtLdLXhl s
  | .extLdLYhl => Sys2Proof.Machine.execExtLdLYhl s
  | .extLdAccXhl => Sys2Proof.Machine.execExtLdAccXhl s
  | .extLdAccYhl => Sys2Proof.Machine.execExtLdAccYhl s
  | .extStrXhYhl => Sys2Proof.Machine.execExtStrXhYhl s
  | .extStrXlYhl => Sys2Proof.Machine.execExtStrXlYhl s
  | .extStrYhXhl => Sys2Proof.Machine.execExtStrYhXhl s
  | .extStrYlXhl => Sys2Proof.Machine.execExtStrYlXhl s
  | .extStrHXhl => Sys2Proof.Machine.execExtStrHXhl s
  | .extStrHYhl => Sys2Proof.Machine.execExtStrHYhl s
  | .extStrLXhl => Sys2Proof.Machine.execExtStrLXhl s
  | .extStrLYhl => Sys2Proof.Machine.execExtStrLYhl s
  | .extStrAccXhl => Sys2Proof.Machine.execExtStrAccXhl s
  | .extStrAccYhl => Sys2Proof.Machine.execExtStrAccYhl s
  | .extMovXhlYhl => Sys2Proof.Machine.execExtMovXhlYhl s
  | .extMovXhlHl => Sys2Proof.Machine.execExtMovXhlHl s
  | .extMovYhlXhl => Sys2Proof.Machine.execExtMovYhlXhl s
  | .extMovYhlHl => Sys2Proof.Machine.execExtMovYhlHl s
  | .extMovHlXhl => Sys2Proof.Machine.execExtMovHlXhl s
  | .extMovHlYhl => Sys2Proof.Machine.execExtMovHlYhl s
  | .extPshXhl => Sys2Proof.Machine.execExtPshXhl s
  | .extPshYhl => Sys2Proof.Machine.execExtPshYhl s
  | .extPshHl => Sys2Proof.Machine.execExtPshHl s
  | .extPshPc => Sys2Proof.Machine.execExtPshPc s
  | .extPopXhl => Sys2Proof.Machine.execExtPopXhl s
  | .extPopYhl => Sys2Proof.Machine.execExtPopYhl s
  | .extPopHl => Sys2Proof.Machine.execExtPopHl s
  | .extPopPc => Sys2Proof.Machine.execExtPopPc s

end Sys2Proof.Machine
end

