-- ==== Sys2Proof/Machine/Step.lean ====
section
/-! DEFINITION. One step (30_encoding.md R108): the boundary, the fetch, the instruction. The latch is cleared by the extended
meanings themselves (log 19). -/

namespace Sys2Proof.Machine

/-- `Step` (R108). A halted machine takes no step (10_state.md R50; log 14). The environment's draw comes first, so the
instruction sees the new I (60_exceptions.md R523). -/
def step (s : State) : Host.Outcome State Fault Refusal :=
  match s.run with
  | .halted => .fault .halted
  | .running =>
    match fetchInstr (boundary s) with
    | .next i => exec i (boundary s)
    | .fault f => .fault f
    | .refused r => .refused r

/-- The state with a word of the opcode table placed where the next step fetches (log 22). -/
def State.withFetchWord (s : State) (nbits w : Nat) : State :=
  placeInstr s (tableBytes nbits w).1 (tableBytes nbits w).2

end Sys2Proof.Machine
end

