-- ==== Sys2Proof/Machine/Assembly.lean ====
section
/-! DEFINITION. The assembly spelling of an instruction (30_encoding.md R119 to R122), and the bytes of an instruction with the
`EXT` a program writes before it (R118, R124). Nothing in the machine depends on this file. -/

namespace Sys2Proof.Machine

/-- The name of a register (R119). -/
def regName : Reg → String
  | .xh => "Xh"
  | .xl => "Xl"
  | .yh => "Yh"
  | .yl => "Yl"
  | .h => "H"
  | .l => "L"
  | .acc => "Acc"
  | .sp => "SP"

/-- The name of a pair (R119). -/
def pairName : Pair → String
  | .xhl => "Xhl"
  | .yhl => "Yhl"
  | .hl => "HL"

/-- The name of a condition (R119). -/
def condName : Cond → String
  | .u => "u"
  | .c => "c"
  | .n => "n"
  | .z => "z"
  | .nc => "nc"
  | .nn => "nn"
  | .nz => "nz"
  | .i => "i"

/-- The mnemonic of a machine-control instruction. -/
def controlName : Control → String
  | .nin => "NIN"
  | .clc => "CLC"
  | .cln => "CLN"
  | .clz => "CLZ"
  | .cli => "CLI"
  | .clf => "CLF"
  | .ext => "EXT"
  | .hlt => "HLT"

/-- The mnemonic of an accumulator operation. -/
def accName : AccOp → String
  | .inc => "INC"
  | .dec => "DEC"
  | .ror => "ROR"
  | .rol => "ROL"
  | .rsh => "RSH"
  | .lsh => "LSH"
  | .not => "NOT"

/-- The mnemonic of an arithmetic or logic operation. -/
def aluName : AluOp → String
  | .add => "ADD"
  | .adc => "ADC"
  | .sub => "SUB"
  | .sbb => "SBB"
  | .cmp => "CMP"
  | .and => "AND"
  | .or => "OR"
  | .xor => "XOR"

/-- One hexadecimal digit. -/
def hexDigit (n : Nat) : String :=
  ["0", "1", "2", "3", "4", "5", "6", "7", "8", "9", "A", "B", "C", "D", "E", "F"].getD n ""

/-- Two hexadecimal digits. -/
def hexByte (b : Byte) : String := hexDigit (b.toNat / 16) ++ hexDigit (b.toNat % 16)

/-- `$hhll`: four digits, the high byte first whatever the order in memory (R103, R119). -/
def absText (c : Config) (b1 b2 : Byte) : String :=
  "$" ++ hexByte (hiByte (absOperand c b1 b2)) ++ hexByte (loByte (absOperand c b1 b2))

/-- The spelling of a place (R119). -/
def placeText (c : Config) : Place → String
  | .abs b1 b2 => absText c b1 b2
  | .zp zz => "$" ++ hexByte zz
  | .ind p => "(" ++ pairName p ++ ")"

/-- The spelling of an operand (R119). -/
def sourceText (c : Config) : Source → String
  | .mem p => placeText c p
  | .imm nn => "#$" ++ hexByte nn
  | .reg r => regName r

/-- The spelling of a form: `LD` writes its destination first, `STR` and `MOV` their source (R121). -/
def formText (c : Config) : Form → String
  | .control k => controlName k
  | .jmp k b1 b2 => "JMP " ++ condName k ++ ", " ++ absText c b1 b2
  | .jsr k b1 b2 => "JSR " ++ condName k ++ ", " ++ absText c b1 b2
  | .rtn k => "RTN " ++ condName k
  | .psh r => "PSH " ++ regName r
  | .pop r => "POP " ++ regName r
  | .incPair p => "INC " ++ pairName p
  | .decPair p => "DEC " ++ pairName p
  | .accOp o => accName o
  | .alu op src => aluName op ++ " " ++ sourceText c src
  | .ld r src => "LD " ++ regName r ++ ", " ++ sourceText c src
  | .str r p => "STR " ++ regName r ++ ", " ++ placeText c p
  | .mov s d => "MOV " ++ regName s ++ ", " ++ regName d
  | .movPair s d => "MOV " ++ pairName s ++ ", " ++ pairName d
  | .pshPair p => "PSH " ++ pairName p
  | .popPair p => "POP " ++ pairName p
  | .pshPc => "PSH PC"
  | .popPc => "POP PC"

/-- The spelling of an instruction under a configuration. -/
def assemblyText (c : Config) (i : Instr) : String := formText c i.form

/-- The bytes a program holds for an instruction: an extended one has its `EXT` before it (R118, R124). -/
def writtenBytes (i : Instr) : List Byte :=
  match i.mode with
  | .base => encode i
  | .ext => encode .ext ++ encode i

end Sys2Proof.Machine
end

