-- ==== Sys2Proof/Machine/FrontPanel.lean ====
section
/-! DEFINITION. The host's moves (60_exceptions.md R533): what the front panel may do to a halted machine. They are no part of
`step` (log 23). -/

namespace Sys2Proof.Machine

/-- What the host may do while the machine is halted (R533). It never sets the latch. -/
inductive HostAction where
  | writeReg (r : Reg) (v : Byte)
  /-- Write one flag, I included, to 0 too (log 31). -/
  | writeFlag (f : FlagName) (b : Bool)
  | writePc (a : Addr)
  /-- Deposit a byte in a memory cell, whatever `MemMap` says of it (log 30). -/
  | writeMem (a : Addr) (v : Byte)
  /-- `continue` (10_state.md R50). -/
  | goOn
  deriving DecidableEq, Repr

/-- The effect of a host action. `continue` sets `run` and changes nothing else (R533). DESIGN CHOICE (log 31): a halted host may
clear I. R533's halted row and 20_memory.md R91 let it write any flag, while R533's last row and 10_state.md R48 have the host and
the environment never clear I. -/
def panelEffect (a : HostAction) (s : State) : State :=
  match a with
  | .writeReg r v => s.setReg r v
  | .writeFlag x b => s.setFlags (s.flags.set x b)
  | .writePc a => s.setPc a
  | .writeMem a v => s.setMem (s.mem.write a v)
  | .goOn => s.setRun .running

/-- A host action: the host does nothing to a running machine (R533, 20_memory.md R91). -/
def frontPanel (a : HostAction) (s : State) : Result :=
  match s.run with
  | .running => .refused .panelWhileRunning
  | .halted => .next (panelEffect a s)

end Sys2Proof.Machine
end

