-- ==== Sys2Proof/Machine/Timing.lean ====
section
/-! DEFINITION. The source's cycle counts (70_reset_and_hazards.md R571 to R573). No state and no step depends on them (log 26). -/

namespace Sys2Proof.Machine

/-- Cycles of an instruction with a byte operand in block 1 or of a load (R571). -/
def sourceCycles : Source → Nat
  | .mem (.abs _ _) => 4
  | .mem (.zp _) => 3
  | .mem (.ind _) => 2
  | .imm _ => 3
  | .reg _ => 2

/-- The "Cycles" column (R571). One figure per conditional instruction, whether or not it is taken (R573); the cycles of the
`EXT` before an extended instruction are not in its figure (R572). -/
def formCycles : Form → Nat
  | .control _ => 2
  | .jmp _ _ _ => 4
  | .jsr _ _ _ => 5
  | .rtn _ => 6
  | .psh _ => 3
  | .pop _ => 3
  | .incPair _ => 2
  | .decPair _ => 2
  | .accOp _ => 2
  | .alu _ src => sourceCycles src
  | .ld _ src => sourceCycles src
  | .str _ p => sourceCycles (.mem p)
  | .mov _ _ => 2
  | .movPair _ _ => 3
  | .pshPair _ => 6
  | .popPair _ => 7
  | .pshPc => 6
  | .popPc => 7

/-- Cycles of an instruction. -/
def instrCycles (i : Instr) : Nat := formCycles i.form

/-- Cycles of an instruction as a program writes it, with its `EXT` where it needs one (R572). -/
def writtenCycles (i : Instr) : Nat :=
  match i.mode with
  | .base => instrCycles i
  | .ext => instrCycles .ext + instrCycles i

end Sys2Proof.Machine
end

