-- ==== Sys2Proof/Machine/Effects.lean ====
section
/-! DEFINITION. What an instruction touches, read from its form and the state: the vocabulary of the frames. The meanings do not
use these definitions; the laws connect the two. -/

namespace Sys2Proof.Machine

/-- The operand can be read: an immediate and a register always, a place if a data read of it is admitted (20_memory.md R73). -/
def State.sourceAdmitted (s : State) : Source → Bool
  | .mem p => readAdmitted (s.kindAt (effAddr p s))
  | .imm _ => true
  | .reg _ => true

/-- The operand byte (R72). -/
def State.sourceValue (s : State) : Source → Byte
  | .mem p => s.readValue (effAddr p s)
  | .imm nn => nn
  | .reg r => s.regs.get r

/-- The state after the operand is read: only a device read leaves a trace (R73, R83). -/
def State.afterSource (s : State) : Source → State
  | .mem p => s.afterRead (effAddr p s)
  | .imm _ => s
  | .reg _ => s

/-- The address of a place as an operand list entry: none for an immediate or a register. -/
def sourceReads (s : State) : Source → List Addr
  | .mem p => [effAddr p s]
  | .imm _ => []
  | .reg _ => []

/-- The data addresses an instruction reads in state `s`, in order (R72, R82). -/
def dataReads (f : Form) (s : State) : List Addr :=
  match f with
  | .control _ => []
  | .jmp _ _ _ => []
  | .jsr _ _ _ => []
  | .rtn k => if condHolds k s.flags then [s.stackAddr (s.regs.sp - 1#8), s.stackAddr (s.regs.sp - 2#8)] else []
  | .psh _ => []
  | .pop _ => [s.stackAddr (s.regs.sp - 1#8)]
  | .incPair _ => []
  | .decPair _ => []
  | .accOp _ => []
  | .alu _ src => sourceReads s src
  | .ld _ src => sourceReads s src
  | .str _ _ => []
  | .mov _ _ => []
  | .movPair _ _ => []
  | .pshPair _ => []
  | .popPair _ => [s.stackAddr (s.regs.sp - 1#8), s.stackAddr (s.regs.sp - 2#8)]
  | .pshPc => []
  | .popPc => [s.stackAddr (s.regs.sp - 1#8), s.stackAddr (s.regs.sp - 2#8)]

/-- The addresses an instruction stores to in state `s`, in order (R72, R82). -/
def dataWrites (f : Form) (s : State) : List Addr :=
  match f with
  | .control _ => []
  | .jmp _ _ _ => []
  | .jsr k _ _ => if condHolds k s.flags then [s.stackAddr s.regs.sp, s.stackAddr (s.regs.sp + 1#8)] else []
  | .rtn _ => []
  | .psh _ => [s.stackAddr s.regs.sp]
  | .pop _ => []
  | .incPair _ => []
  | .decPair _ => []
  | .accOp _ => []
  | .alu _ _ => []
  | .ld _ _ => []
  | .str _ p => [effAddr p s]
  | .mov _ _ => []
  | .movPair _ _ => []
  | .pshPair _ => [s.stackAddr s.regs.sp, s.stackAddr (s.regs.sp + 1#8)]
  | .popPair _ => []
  | .pshPc => [s.stackAddr s.regs.sp, s.stackAddr (s.regs.sp + 1#8)]
  | .popPc => []

/-- Every data access of the instruction is admitted in state `s` (R73). -/
def dataAdmitted (f : Form) (s : State) : Bool :=
  (dataReads f s).all (fun a => readAdmitted (s.kindAt a)) && (dataWrites f s).all (fun a => writeAdmitted (s.kindAt a))

/-- The registers an instruction may write: its destination, and SP where it uses the stack (10_state.md R31 to R33). -/
def writesReg (f : Form) (r : Reg) : Bool :=
  match f with
  | .control _ => false
  | .jmp _ _ _ => false
  | .jsr _ _ _ => r == .sp
  | .rtn _ => r == .sp
  | .psh _ => r == .sp
  | .pop x => r == x || r == .sp
  | .incPair p => p.holds r
  | .decPair p => p.holds r
  | .accOp _ => r == .acc
  | .alu op _ => op != .cmp && r == .acc
  | .ld x _ => r == x
  | .str _ _ => false
  | .mov _ d => r == d
  | .movPair _ d => d.holds r
  | .pshPair _ => r == .sp
  | .popPair p => p.holds r || r == .sp
  | .pshPc => r == .sp
  | .popPc => r == .sp

/-- The forms whose result writes C, N and Z (10_state.md R41). -/
def writesResultFlags (f : Form) : Bool :=
  match f with
  | .accOp _ => true
  | .alu _ _ => true
  | .control _ => false
  | .jmp _ _ _ => false
  | .jsr _ _ _ => false
  | .rtn _ => false
  | .psh _ => false
  | .pop _ => false
  | .incPair _ => false
  | .decPair _ => false
  | .ld _ _ => false
  | .str _ _ => false
  | .mov _ _ => false
  | .movPair _ _ => false
  | .pshPair _ => false
  | .popPair _ => false
  | .pshPc => false
  | .popPc => false

/-- A condition tests the flag (10_state.md R52). -/
def condReads (k : Cond) (x : FlagName) : Bool :=
  match k with
  | .u => false
  | .c => x == .c
  | .n => x == .n
  | .z => x == .z
  | .nc => x == .c
  | .nn => x == .n
  | .nz => x == .z
  | .i => x == .i

/-- The flags an instruction reads (10_state.md R42): a condition its flag, `ADC`, `SBB`, `ROR` and `ROL` C. The logic operations
hand the old C to the open function `logic_carry` (R46), so they count as readers of C. -/
def readsFlag (f : Form) (x : FlagName) : Bool :=
  match f with
  | .jmp k _ _ => condReads k x
  | .jsr k _ _ => condReads k x
  | .rtn k => condReads k x
  | .accOp o => (o == .ror || o == .rol || o == .not) && x == .c
  | .alu op _ => (op == .adc || op == .sbb || op == .and || op == .or || op == .xor) && x == .c
  | .control _ => false
  | .psh _ => false
  | .pop _ => false
  | .incPair _ => false
  | .decPair _ => false
  | .ld _ _ => false
  | .str _ _ => false
  | .mov _ _ => false
  | .movPair _ _ => false
  | .pshPair _ => false
  | .popPair _ => false
  | .pshPc => false
  | .popPc => false

/-- The forms that can write `pc` other than by advancing it: `JMP`, `JSR`, `RTN`, `POP PC` (10_state.md R39). -/
def mayJump (f : Form) : Bool :=
  match f with
  | .jmp _ _ _ => true
  | .jsr _ _ _ => true
  | .rtn _ => true
  | .popPc => true
  | .control _ => false
  | .psh _ => false
  | .pop _ => false
  | .incPair _ => false
  | .decPair _ => false
  | .accOp _ => false
  | .alu _ _ => false
  | .ld _ _ => false
  | .str _ _ => false
  | .mov _ _ => false
  | .movPair _ _ => false
  | .pshPair _ => false
  | .popPair _ => false
  | .pshPc => false

end Sys2Proof.Machine
end

