-- ==== Sys2Proof/Safety.lean ====
section
/-! DEFINITION. The states claims speak of: launch states, the invariant every step keeps, and when a step finds everything it
needs. -/

namespace Sys2Proof.Machine

/-- The launch premises `ext_clear` and `running` (10_state.md R54). -/
def State.Launch (s : State) : Prop := s.ext = false ∧ s.run = .running

/-- Memory and device log keep their forms, the memory map is in order, and a halted machine has the latch clear
(60_exceptions.md R531). -/
def State.Inv (s : State) : Prop :=
  s.mem.wf = true ∧ s.cfg.wf = true ∧ (s.run = .halted → s.ext = false) ∧ ∀ c ∈ s.deviceLog, c.1 < 65536

/-- The bytes of an instruction stand at `pc` and after it, modulo 2^16, in cells that admit a fetch (20_memory.md R73, R82). -/
def State.holds (s : State) (bs : List Byte) : Prop :=
  ∀ (k : Nat) (b : Byte), bs[k]? = some b →
    fetchAdmitted (s.kindAt (s.pc + BitVec.ofNat 16 k)) = true ∧ s.mem.read (s.pc + BitVec.ofNat 16 k) = b

/-- The next step's instruction is `i`: the machine is running, its mode is the instruction's, its bytes stand at `pc`. -/
def State.ready (s : State) (i : Instr) : Prop := s.run = .running ∧ s.mode = i.mode ∧ s.holds (encode i)

end Sys2Proof.Machine
end

