-- ==== Sys2Proof/Certificates/Slice0/Obligations.lean ====
section
/-! DEFINITION. The statements about the machine, from the numbered rules. "The next instruction's address" is
`s.pc + BitVec.ofNat 16 i.length`; an instruction of the extended map clears the latch, every other one leaves it, but `EXT`. -/

section
open Sys2Proof Sys2Proof.Machine

/-! Encoding and decoding. -/

/-- Tier 3. Decode and encode agree, both ways, for all 280 instructions and every operand: bytes decode in a mode to `i` with
`rest` left over exactly when `i` is listed in that mode and they are its encoding followed by `rest` (30_encoding.md R101,
R102, R107, R109 to R114). Rests on the spec's own decisions D1, D17 and D18; log 20. -/
def Obligations.DecodeIffEncodes : Prop :=
  ∀ (m : Mode) (bs rest : List Byte) (i : Instr),
    decodeBytes m bs = .ok (i, rest) ↔ i.mode = m ∧ bs = encode i ++ rest

/-- Tier 2. The listed forms are exactly the forms of the 280 instructions, and no two instructions have one form
(30_encoding.md R109 to R116). Rests on the spec's own decision D1; log 20. -/
def Obligations.ListedFormsAreTheInstructions : Prop :=
  (∀ f : Form, f.wf = true ↔ ∃ i : Instr, i.form = f) ∧ ∀ i j : Instr, i.form = j.form → i = j

/-- Tier 1. The length of an instruction is the function of mode, block and column in the table of 30_encoding.md R106: it
depends on no operand byte and no row, and is 1 in extended mode, where every opcode byte is in block 0 (R100). -/
def Obligations.LengthIsFixedByTheOpcode : Prop :=
  ∀ i : Instr,
    let block := i.form.opcode.toNat / 64
    let col := i.form.opcode.toNat % 8
    (i.mode = .ext → block = 0) ∧
    i.length =
      if i.mode = .ext ∨ block = 3 then 1
      else if block = 0 then (if col = 1 ∨ col = 2 then 3 else 1)
      else if col = 0 ∨ (block = 2 ∧ col = 4) then 3
      else if col = 1 ∨ col = 3 ∨ (block = 2 ∧ col = 5) then 2
      else 1

/-- Tier 2. A running machine whose opcode byte can be fetched is refused exactly on the 26 bytes of R115 in base mode, and
exactly on the 14 block-0 bytes and the 192 bytes of blocks 1 to 3 of R116 in extended mode. Rests on the spec's own decisions
D17 and D18; logs 16 and 20. -/
def Obligations.RefusedExactlyOnUnlistedOpcodes : Prop :=
  ∀ s : State, s.run = .running → fetchAdmitted (s.kindAt s.pc) = true →
    (s.ext = false → (step s = .refused (.unlistedBase (s.mem.read s.pc)) ↔ s.mem.read s.pc ∈
      ([0o073, 0o074, 0o075, 0o066, 0o076, 0o077, 0o242, 0o252, 0o246, 0o256, 0o207, 0o217, 0o227, 0o237, 0o247, 0o257,
        0o267, 0o277, 0o300, 0o311, 0o322, 0o333, 0o344, 0o355, 0o366, 0o377] : List Byte))) ∧
    (s.ext = true → (step s = .refused (.unlistedExt (s.mem.read s.pc)) ↔ s.mem.read s.pc ∈
      ([0o002, 0o012, 0o023, 0o033, 0o072, 0o073, 0o004, 0o014, 0o025, 0o035, 0o074, 0o075, 0o066, 0o076] : List Byte) ∨
        0o100 ≤ (s.mem.read s.pc).toNat))

/-- Tier 2. No instruction is refused by its meaning, and a step is refused for no other reason than an unlisted opcode byte at
`pc` (00_scope.md R12, 30_encoding.md R115, R116). Rests on the spec's own decision D18; logs 16 and 20. -/
def Obligations.NothingElseIsRefused : Prop :=
  (∀ (i : Instr) (s : State) (r : Refusal), exec i s ≠ .refused r) ∧
    ∀ (s : State) (r : Refusal), step s = .refused r →
      (s.ext = false ∧ r = .unlistedBase (s.mem.read s.pc)) ∨ (s.ext = true ∧ r = .unlistedExt (s.mem.read s.pc))

/-- Tier 1. Words written out from the spec's encodings decode to the instructions they stand for (30_encoding.md R102, R118).
Rests on the spec's own decision D1; log 20. -/
def Obligations.SampleWordsDecode : Prop :=
  decodeBytes .base [0b00110001, 0x12, 0x34] = .ok (.jmpNz 0x12 0x34, []) ∧
  decodeBytes .base [0b00000100] = .ok (.pshXh, []) ∧
  decodeBytes .base [0b00110111] = .ok (.notAcc, []) ∧
  decodeBytes .base [0b01000001, 0x34] = .ok (.addZp 0x34, []) ∧
  decodeBytes .base [0b01101000, 0x12, 0x34] = .ok (.andAbs 0x12 0x34, []) ∧
  decodeBytes .base [0b10100011, 0xFE] = .ok (.ldHImm 0xFE, []) ∧
  decodeBytes .base [0b10110100, 0x12, 0x34] = .ok (.strAccAbs 0x12 0x34, []) ∧
  decodeBytes .base [0b11001000] = .ok (.movXhXl, []) ∧
  decodeBytes .ext [0b00000000] = .ok (.extAddXhl, []) ∧
  decodeBytes .ext [0b00010110] = .ok (.extMovXhlYhl, []) ∧
  decodeBytes .ext [0b00110111] = .ok (.extPshPc, [])

/-- Tier 1. When the bytes at `pc` are those of `i`, in its mode, in cells that admit a fetch, one step of the running machine
is `exec i` of the state after the boundary; the boundary may set I from the next draw, listed or free, uses that draw up and
changes nothing else (30_encoding.md R108, 10_state.md R48). Rests on the spec's own decisions D17 and D19; logs 7 and 20. -/
def Obligations.StepRunsTheDecodedInstruction : Prop :=
  ∀ (s : State) (i : Instr), s.ready i →
    step s = exec i (boundary s) ∧
    boundary s = { s with
      flags := { s.flags with i := s.flags.i || s.iDraws.headD (Config.iRaise s.iCount) }
      iDraws := s.iDraws.tail
      iCount := s.iCount + 1 }

/-- Tier 2. A machine has a next state exactly when it is running, a listed instruction of its mode stands at `pc` in cells that
admit a fetch, and every data access of that instruction is admitted: nothing else stops a run (20_memory.md R73,
60_exceptions.md R520, R535). Rests on the spec's own decisions D18 and D22; logs 15 to 17 and 20. -/
def Obligations.StepExactlyWhenEverythingIsAdmitted : Prop :=
  ∀ s : State, (∃ t, step s = .next t) ↔ ∃ i : Instr, s.ready i ∧ dataAdmitted i.form (boundary s) = true

/-! Flag laws and register views. -/

/-- Tier 1. `Add8` (10_state.md R44). Rests on the spec's own decision D12; log 20. -/
def Obligations.AdditionLaw : Prop :=
  ∀ (o : SubCarryOut) (a b : Byte) (cin : Bool),
    let t := a.toNat + b.toNat + cin.toNat
    t ≤ 511 ∧ (add8 a b cin).1.toNat = t % 256 ∧ (add8 a b cin).2 = t.testBit 8 ∧ ((add8 a b cin).2 = true ↔ 255 < t) ∧
    aluResult o .add a b cin = add8 a b false ∧ aluResult o .adc a b cin = add8 a b cin ∧
    accResult o .inc a cin = add8 a 0x01#8 false

/-- Tier 1. `Sub8` (10_state.md R45). Rests on the spec's own decision D13; logs 5 and 20. -/
def Obligations.SubtractionLaw : Prop :=
  ∀ (o : SubCarryOut) (a b : Byte) (bin : Bool),
    let t : Int := (a.toNat : Int) - (b.toNat : Int) - (bin.toNat : Int)
    t ≤ 255 ∧ -256 ≤ t ∧ ((sub8 o a b bin).1.toNat : Int) = t % 256 ∧
    ((sub8 .borrow a b bin).2 = true ↔ a.toNat < b.toNat + bin.toNat) ∧
    (sub8 .notBorrow a b bin).2 = !(sub8 .borrow a b bin).2 ∧
    (sub8 .notBorrow a b bin).1 = (sub8 .borrow a b bin).1 ∧
    aluResult o .sub a b bin = sub8 o a b false ∧ aluResult o .cmp a b bin = sub8 o a b false ∧
    aluResult o .sbb a b bin = sub8 o a b bin ∧ accResult o .dec a bin = sub8 o a 0x01#8 false

/-- Tier 1. `SetNZ`: N is bit 7 of the result, Z says it is zero, neither depends on the old flags, and I stays (10_state.md
R43, R41). Rests on the spec's own decision D11; log 20. -/
def Obligations.ResultFlagsLaw : Prop :=
  ∀ (f : Flags) (r : Byte) (c : Bool), resultFlags f r c = { c := c, n := r.getLsbD 7, z := r == 0x00#8, i := f.i }

/-- Tier 1. The four shifts and rotates, bit by bit, each by one place (10_state.md R47). Rests on the spec's own decision D15;
log 20. -/
def Obligations.ShiftLaw : Prop :=
  ∀ (a : Byte) (c : Bool),
    (∀ j, j < 7 → (ror8 a c).1.getLsbD j = a.getLsbD (j + 1)) ∧ (ror8 a c).1.getLsbD 7 = c ∧ (ror8 a c).2 = a.getLsbD 0 ∧
    (∀ j, j < 7 → (rol8 a c).1.getLsbD (j + 1) = a.getLsbD j) ∧ (rol8 a c).1.getLsbD 0 = c ∧ (rol8 a c).2 = a.getLsbD 7 ∧
    rsh8 a = ror8 a false ∧ lsh8 a = rol8 a false

/-- Tier 1. AND, OR, XOR and NOT bit by bit, and their C, which is the open function of the operation, the old accumulator, the
operand (0xFF for NOT) and the old C (10_state.md R46, 45_logic.md R310). Rests on the spec's own decision D14; logs 6 and
20. -/
def Obligations.LogicLaw : Prop :=
  ∀ (o : SubCarryOut) (a b : Byte) (c : Bool),
    (∀ j, j < 8 →
      (aluResult o .and a b c).1.getLsbD j = (a.getLsbD j && b.getLsbD j) ∧
      (aluResult o .or a b c).1.getLsbD j = (a.getLsbD j || b.getLsbD j) ∧
      (aluResult o .xor a b c).1.getLsbD j = (a.getLsbD j != b.getLsbD j) ∧
      (accResult o .not a c).1.getLsbD j = !a.getLsbD j) ∧
    (aluResult o .and a b c).2 = Config.logicCarry .and a b c ∧ (aluResult o .or a b c).2 = Config.logicCarry .or a b c ∧
    (aluResult o .xor a b c).2 = Config.logicCarry .xor a b c ∧ (accResult o .not a c).2 = Config.logicCarry .not a 0xFF#8 c

/-- Tier 1. The condition rows (10_state.md R52). -/
def Obligations.ConditionTable : Prop :=
  ∀ f : Flags, condHolds .u f = true ∧ condHolds .c f = f.c ∧ condHolds .n f = f.n ∧ condHolds .z f = f.z ∧ condHolds .nc f = !f.c ∧
    condHolds .nn f = !f.n ∧ condHolds .nz f = !f.z ∧ condHolds .i f = f.i

/-- Tier 1. The eight registers have the numbers 0 to 7; each holds what was last written to it, whatever that is, and a write
leaves the other seven (10_state.md R30). -/
def Obligations.RegistersHoldWhatIsWritten : Prop :=
  [Reg.xh, Reg.xl, Reg.yh, Reg.yl, Reg.h, Reg.l, Reg.acc, Reg.sp].map Reg.index = [0, 1, 2, 3, 4, 5, 6, 7] ∧
    ∀ (g : Regs) (r q : Reg) (v : Byte), (g.set r v).get q = if q = r then v else g.get q

/-- Tier 1. A pair is a view of two registers: high half in bits 15:8, low half in bits 7:0; writing a register changes exactly
the pair it is a half of, and writing a pair writes its two halves and no other register (10_state.md R34). Rests on the spec's
own decision D3; log 20. -/
def Obligations.PairsAreViews : Prop :=
  ∀ (g : Regs) (v : Addr) (b : Byte),
    g.getPair .xhl = g.xh ++ g.xl ∧ g.getPair .yhl = g.yh ++ g.yl ∧ g.getPair .hl = g.h ++ g.l ∧
    g.setPair .xhl v = { g with xh := v.extractLsb' 8 8, xl := v.extractLsb' 0 8 } ∧
    g.setPair .yhl v = { g with yh := v.extractLsb' 8 8, yl := v.extractLsb' 0 8 } ∧
    g.setPair .hl v = { g with h := v.extractLsb' 8 8, l := v.extractLsb' 0 8 } ∧
    (g.set .xh b).getPair .xhl = b ++ g.xl ∧ (g.set .xl b).getPair .xhl = g.xh ++ b ∧
    (g.set .yh b).getPair .yhl = b ++ g.yl ∧ (g.set .yl b).getPair .yhl = g.yh ++ b ∧
    (g.set .h b).getPair .hl = b ++ g.l ∧ (g.set .l b).getPair .hl = g.h ++ b ∧
    (∀ (p : Pair) (r : Reg), p.holds r = false → (g.set r b).getPair p = g.getPair p)

/-! Memory, admission and the stack. -/

/-- Tier 1. The address of a place: absolute in the order `ABS_HIGH_FIRST` says, zero page with a zero high byte, a pair as it
stands (30_encoding.md R103, R104, 20_memory.md R72, R74). Rests on the spec's own decisions D3, D5 and D6; logs 2 and 20. -/
def Obligations.PlaceAddresses : Prop :=
  ∀ (s : State) (b1 b2 zz : Byte) (p : Pair),
    effAddr (.abs b1 b2) s = (if s.cfg.absHighFirst then b1 ++ b2 else b2 ++ b1) ∧
    effAddr (.zp zz) s = zz.setWidth 16 ∧ effAddr (.ind p) s = s.regs.getPair p

/-- Tier 2. In memory in its canonical form a read returns the byte last written to its address and other addresses keep theirs,
and a write keeps the form (20_memory.md R73, R86; log 12). Rests on the spec's own decision D23; log 20. -/
def Obligations.ReadAfterWrite : Prop :=
  ∀ (m : Memory) (a b : Addr) (v : Byte), m.wf = true →
    (m.write a v).wf = true ∧ (m.write a v).read b = if b = a then v else m.read b

/-- Tier 1. Accesses by kind of cell: what each read, fetch and write does on ram, rom, absent and device (20_memory.md R73).
The free byte of a device read and the device log are the model's own (log 18). Rests on the spec's own decision D22; logs 15,
17, 18 and 20. -/
def Obligations.AccessesByKind : Prop :=
  ∀ (s : State) (a : Addr) (v : Byte),
    (s.kindAt a = .ram → memRead a s = .ok (s.mem.read a, s) ∧ fetchByte a s = .ok (s.mem.read a) ∧
      memWrite a v s = .ok { s with mem := s.mem.write a v }) ∧
    (s.kindAt a = .rom → memRead a s = .ok (s.mem.read a, s) ∧ fetchByte a s = .ok (s.mem.read a) ∧
      memWrite a v s = .error (.stuckRomWrite a)) ∧
    (s.kindAt a = .absent → memRead a s = .error (.stuckAbsent a) ∧ fetchByte a s = .error (.stuckAbsent a) ∧
      memWrite a v s = .error (.stuckAbsent a)) ∧
    (s.kindAt a = .device →
      memRead a s = .ok (Config.deviceByte s.deviceReads a, { s with deviceReads := s.deviceReads + 1 }) ∧
      fetchByte a s = .error (.stuckDeviceFetch a) ∧
      memWrite a v s = .ok { s with deviceLog := s.deviceLog ++ [(a.toNat, v)] })

/-- Tier 1. `Push8` and `Pop8`: write then increment, decrement then read, SP modulo 256 inside the stack page (20_memory.md
R75, R76, R77). Rests on the spec's own decisions D7, D8 and D16; logs 3 and 20. -/
def Obligations.PushAndPopOneByte : Prop :=
  ∀ (s : State) (v : Byte),
    (writeAdmitted (s.kindAt (s.cfg.stackPage ++ s.regs.sp)) = true →
      push8 v s = .ok { s.afterWrite (s.cfg.stackPage ++ s.regs.sp) v with
        regs := { s.regs with sp := BitVec.ofNat 8 (s.regs.sp.toNat + 1) } }) ∧
    (readAdmitted (s.kindAt (s.cfg.stackPage ++ (s.regs.sp - 1#8))) = true →
      pop8 s = .ok (s.readValue (s.cfg.stackPage ++ (s.regs.sp - 1#8)),
        { s.afterRead (s.cfg.stackPage ++ (s.regs.sp - 1#8)) with
          regs := { s.regs with sp := BitVec.ofNat 8 (s.regs.sp.toNat + 255) } }))

/-- Tier 2. `Pop16` is the inverse of `Push16` under both byte orders: where the two stack cells are ram, what was pushed comes
off and every register is as before, for every SP, 0xFF included (20_memory.md R78, R79). Rests on the spec's own decisions D8,
D9 and D16; logs 4 and 20. -/
def Obligations.PopUndoesPush : Prop :=
  ∀ (s : State) (v : Addr), s.mem.wf = true → s.kindAt (s.stackAddr s.regs.sp) = .ram →
    s.kindAt (s.stackAddr (s.regs.sp + 1#8)) = .ram →
    ∃ t u, push16 v s = .ok t ∧ t.regs.sp = s.regs.sp + 2#8 ∧
      (t.mem.read (s.stackAddr s.regs.sp) = if s.cfg.stackHighFirst then hiByte v else loByte v) ∧
      (t.mem.read (s.stackAddr (s.regs.sp + 1#8)) = if s.cfg.stackHighFirst then loByte v else hiByte v) ∧
      pop16 t = .ok (v, u) ∧ u.regs = s.regs ∧ u.mem = t.mem

/-! What each instruction does: `exec` answers this next state. Every field not named is as before. -/

/-- Tier 1. From every state: `NIN` only advances `pc`; `CLC`, `CLN`, `CLZ`, `CLI` clear their one flag and `CLF` the four; `EXT`
sets the latch; `HLT` halts; each advances `pc` by 1 and leaves everything else (40_machine_control.md R140 to R148). Constructors
nin, clc, cln, clz, cli, clf, ext, hlt. Rests on the spec's own decisions D17 and D20; log 20. -/
def Obligations.MachineControlResults : Prop :=
  ∀ s : State,
    exec .nin s = .next { s with pc := s.pc + 1#16 } ∧
    exec .clc s = .next { s with flags := { s.flags with c := false }, pc := s.pc + 1#16 } ∧
    exec .cln s = .next { s with flags := { s.flags with n := false }, pc := s.pc + 1#16 } ∧
    exec .clz s = .next { s with flags := { s.flags with z := false }, pc := s.pc + 1#16 } ∧
    exec .cli s = .next { s with flags := { s.flags with i := false }, pc := s.pc + 1#16 } ∧
    exec .clf s = .next { s with flags := { c := false, n := false, z := false, i := false }, pc := s.pc + 1#16 } ∧
    exec .ext s = .next { s with ext := true, pc := s.pc + 1#16 } ∧
    exec .hlt s = .next { s with run := .halted, pc := s.pc + 1#16 }

/-- Tier 1. `JMP` under its condition, taken or not (41_program_flow.md R160, R162 to R169). Constructors jmpU, jmpC, jmpN,
jmpZ, jmpNc, jmpNn, jmpNz, jmpI. Rests on the spec's own decisions D5 and D28; logs 2 and 20. -/
def Obligations.JumpResult : Prop :=
  ∀ (i : Instr) (s : State) (k : Cond) (b1 b2 : Byte), i.form = .jmp k b1 b2 →
    exec i s = .next { s with
      pc := if condHolds k s.flags then (if s.cfg.absHighFirst then b1 ++ b2 else b2 ++ b1) else s.pc + 3#16 }

/-- Tier 2. A conditional instruction whose condition is false only advances `pc` by its length: 3 for `JMP` and `JSR`, 1 for
`RTN` (41_program_flow.md R160). Constructors jmp, jsr and rtn under C, N, Z, Nc, Nn, Nz and (jmp, jsr) I. Rests on the spec's
own decision D28; log 20. -/
def Obligations.UntakenConditionalOnlyAdvances : Prop :=
  ∀ (i : Instr) (s : State) (k : Cond) (b1 b2 : Byte), condHolds k s.flags = false →
    (i.form = .jmp k b1 b2 ∨ i.form = .jsr k b1 b2 → exec i s = .next { s with pc := s.pc + 3#16 }) ∧
    (i.form = .rtn k → exec i s = .next { s with pc := s.pc + 1#16 })

/-- Tier 2. A taken `JSR` pushes the address of the next instruction, in the order `STACK_HIGH_FIRST` says, adds 2 to SP and
goes to its operand (41_program_flow.md R170 to R177, 20_memory.md R78). Constructors jsrU, jsrC, jsrN, jsrZ, jsrNc, jsrNn,
jsrNz, jsrI. Rests on the spec's own decisions D5, D7 to D10 and D16; logs 2 to 4 and 20. -/
def Obligations.CallResult : Prop :=
  ∀ (i : Instr) (s : State) (k : Cond) (b1 b2 : Byte), i.form = .jsr k b1 b2 → condHolds k s.flags = true →
    let a1 := s.stackAddr s.regs.sp
    let a2 := s.stackAddr (s.regs.sp + 1#8)
    let ret := s.pc + 3#16
    writeAdmitted (s.kindAt a1) = true → writeAdmitted (s.kindAt a2) = true →
    exec i s = .next
      { (s.afterWrite a1 (if s.cfg.stackHighFirst then hiByte ret else loByte ret)).afterWrite a2
          (if s.cfg.stackHighFirst then loByte ret else hiByte ret) with
        regs := { s.regs with sp := s.regs.sp + 2#8 }
        pc := if s.cfg.absHighFirst then b1 ++ b2 else b2 ++ b1 }

/-- Tier 2. A taken `RTN` pops `pc` and subtracts 2 from SP; flags and memory stay (41_program_flow.md R178 to R184,
20_memory.md R79, 60_exceptions.md R525). Constructors rtnU, rtnC, rtnN, rtnZ, rtnNc, rtnNn, rtnNz. Rests on the spec's own
decisions D7 to D9 and D16; logs 3, 4 and 20. -/
def Obligations.ReturnResult : Prop :=
  ∀ (i : Instr) (s : State) (k : Cond), i.form = .rtn k → condHolds k s.flags = true →
    let a1 := s.stackAddr (s.regs.sp - 1#8)
    let a2 := s.stackAddr (s.regs.sp - 2#8)
    let top := s.readValue a1
    let next := (s.afterRead a1).readValue a2
    readAdmitted (s.kindAt a1) = true → readAdmitted (s.kindAt a2) = true →
    exec i s = .next { (s.afterRead a1).afterRead a2 with
      regs := { s.regs with sp := s.regs.sp - 2#8 }
      pc := if s.cfg.stackHighFirst then next ++ top else top ++ next }

/-- Tier 2. `PSH` of a register (42_stack_and_double_register.md R200, R202 to R208). Constructors pshXh, pshXl, pshYh, pshYl,
pshH, pshL, pshAcc. Rests on the spec's own decisions D7, D8 and D16; log 20. -/
def Obligations.PushRegisterResult : Prop :=
  ∀ (i : Instr) (s : State) (r : Reg), i.form = .psh r →
    writeAdmitted (s.kindAt (s.stackAddr s.regs.sp)) = true →
    exec i s = .next { s.afterWrite (s.stackAddr s.regs.sp) (s.regs.get r) with
      regs := { s.regs with sp := s.regs.sp + 1#8 }, pc := s.pc + 1#16 }

/-- Tier 2. `POP` of a register: no flag is written (42_stack_and_double_register.md R200, R209 to R215). Constructors popXh,
popXl, popYh, popYl, popH, popL, popAcc. Rests on the spec's own decisions D7, D8 and D16; log 20. -/
def Obligations.PopRegisterResult : Prop :=
  ∀ (i : Instr) (s : State) (r : Reg), i.form = .pop r →
    readAdmitted (s.kindAt (s.stackAddr (s.regs.sp - 1#8))) = true →
    exec i s = .next { s.afterRead (s.stackAddr (s.regs.sp - 1#8)) with
      regs := ({ s.regs with sp := s.regs.sp - 1#8 } : Regs).set r (s.readValue (s.stackAddr (s.regs.sp - 1#8)))
      pc := s.pc + 1#16 }

/-- Tier 2. `INC` and `DEC` of a pair, modulo 2^16, no flag written (42_stack_and_double_register.md R201, R216 to R221).
Constructors incXhl, incYhl, incHl, decXhl, decYhl, decHl. Rests on the spec's own decisions D3 and D16; log 20. -/
def Obligations.PairCountResult : Prop :=
  ∀ (i : Instr) (s : State) (p : Pair),
    (i.form = .incPair p →
      exec i s = .next { s with
        regs := s.regs.setPair p (BitVec.ofNat 16 ((s.regs.getPair p).toNat + 1)), pc := s.pc + 1#16 }) ∧
    (i.form = .decPair p →
      exec i s = .next { s with
        regs := s.regs.setPair p (BitVec.ofNat 16 ((s.regs.getPair p).toNat + 65535)), pc := s.pc + 1#16 })

/-- Tier 1. `INC` and `DEC` of the accumulator, with C the carry, or the borrow in the sense of `SUB_CARRY_OUT`
(43_accumulator_ops.md R230 to R232). Constructors incAcc, decAcc. Rests on the spec's own decisions D11 to D13; logs 5
and 20. -/
def Obligations.AccumulatorCountResult : Prop :=
  ∀ s : State,
    exec .incAcc s = .next { s with
      regs := { s.regs with acc := s.regs.acc + 1#8 }
      flags := { c := s.regs.acc == 0xFF#8, n := (s.regs.acc + 1#8).getLsbD 7, z := s.regs.acc + 1#8 == 0#8, i := s.flags.i }
      pc := s.pc + 1#16 } ∧
    exec .decAcc s = .next { s with
      regs := { s.regs with acc := s.regs.acc - 1#8 }
      flags :=
        { c := (s.regs.acc == 0#8) == (s.cfg.subCarryOut == .borrow), n := (s.regs.acc - 1#8).getLsbD 7
          z := s.regs.acc - 1#8 == 0#8, i := s.flags.i }
      pc := s.pc + 1#16 }

/-- Tier 1. `ROR`, `ROL`, `RSH`, `LSH`: the accumulator and C as one 9-bit quantity (43_accumulator_ops.md R233 to R236).
Constructors rorAcc, rolAcc, rshAcc, lshAcc. Rests on the spec's own decisions D11 and D15; log 20. -/
def Obligations.ShiftResult : Prop :=
  ∀ (s : State) (c : Bool) (r : Byte),
    (r.toNat = s.regs.acc.toNat / 2 + 128 * s.flags.c.toNat → c = s.regs.acc.getLsbD 0 →
      exec .rorAcc s = .next { s with
        regs := { s.regs with acc := r }, flags := resultFlags s.flags r c, pc := s.pc + 1#16 }) ∧
    (2 * s.regs.acc.toNat + s.flags.c.toNat = 256 * c.toNat + r.toNat →
      exec .rolAcc s = .next { s with
        regs := { s.regs with acc := r }, flags := resultFlags s.flags r c, pc := s.pc + 1#16 }) ∧
    (r.toNat = s.regs.acc.toNat / 2 → c = s.regs.acc.getLsbD 0 →
      exec .rshAcc s = .next { s with
        regs := { s.regs with acc := r }, flags := resultFlags s.flags r c, pc := s.pc + 1#16 }) ∧
    (2 * s.regs.acc.toNat = 256 * c.toNat + r.toNat →
      exec .lshAcc s = .next { s with
        regs := { s.regs with acc := r }, flags := resultFlags s.flags r c, pc := s.pc + 1#16 })

/-- Tier 1. `NOT`; its C is the open function (43_accumulator_ops.md R237, 10_state.md R46). Constructor notAcc. Rests on the
spec's own decisions D11 and D14; logs 6 and 20. -/
def Obligations.NotResult : Prop :=
  ∀ s : State,
    exec .notAcc s = .next { s with
      regs := { s.regs with acc := ~~~s.regs.acc }
      flags :=
        { c := Config.logicCarry .not s.regs.acc 0xFF#8 s.flags.c, n := !s.regs.acc.getLsbD 7, z := s.regs.acc == 0xFF#8
          i := s.flags.i }
      pc := s.pc + 1#16 }

/-- Tier 2. `ADD` and `ADC`, every operand form, base and extended: the sum in the integers, C its carry, N and Z of the byte
(44_arithmetic.md R250 to R267, 48_extended_alu_load_store.md R460, R462 to R465). Constructors add, adc with Abs, Zp, Hl, Imm,
Xh, Xl, Yh, Yl, and extAdd, extAdc with Xhl, Yhl. Rests on the spec's own decisions D11 and D12; log 20. -/
def Obligations.AddResult : Prop :=
  ∀ (i : Instr) (s : State) (op : AluOp) (src : Source), i.form = .alu op src → op = .add ∨ op = .adc →
    s.sourceAdmitted src = true →
    let t := s.regs.acc.toNat + (s.sourceValue src).toNat + (if op = .adc then s.flags.c.toNat else 0)
    exec i s = .next { s.afterSource src with
      regs := { s.regs with acc := BitVec.ofNat 8 t }
      flags := { c := decide (255 < t), n := (BitVec.ofNat 8 t).getLsbD 7, z := t % 256 == 0, i := s.flags.i }
      pc := s.pc + BitVec.ofNat 16 i.length
      ext := if i.mode = .ext then false else s.ext }

/-- Tier 2. `SUB`, `SBB` and `CMP`, every operand form, base and extended: the difference in the integers, which `CMP` discards,
C its borrow in the sense of `SUB_CARRY_OUT` (44_arithmetic.md R250, R251, R268 to R291, 48_extended_alu_load_store.md R460,
R466 to R471). Constructors sub, sbb, cmp with Abs, Zp, Hl, Imm, Xh, Xl, Yh, Yl, and extSub, extSbb, extCmp with Xhl, Yhl. Rests
on the spec's own decisions D11 and D13; logs 5 and 20. -/
def Obligations.SubtractResult : Prop :=
  ∀ (i : Instr) (s : State) (op : AluOp) (src : Source), i.form = .alu op src → op = .sub ∨ op = .sbb ∨ op = .cmp →
    s.sourceAdmitted src = true →
    let t : Int := (s.regs.acc.toNat : Int) - ((s.sourceValue src).toNat : Int) -
      (if op = .sbb then (s.flags.c.toNat : Int) else 0)
    exec i s = .next { s.afterSource src with
      regs := { s.regs with acc := if op = .cmp then s.regs.acc else BitVec.ofInt 8 t }
      flags :=
        { c := decide (t < 0) == (s.cfg.subCarryOut == .borrow), n := (BitVec.ofInt 8 t).getLsbD 7
          z := BitVec.ofInt 8 t == 0#8, i := s.flags.i }
      pc := s.pc + BitVec.ofNat 16 i.length
      ext := if i.mode = .ext then false else s.ext }

/-- Tier 2. `AND`, `OR` and `XOR`, every operand form, base and extended; C is the open function of the operation, the old
accumulator, the operand and the old C (45_logic.md R310 to R334, 10_state.md R46, 48_extended_alu_load_store.md R460, R472 to
R477). Constructors and, or, xor with Abs, Zp, Hl, Imm, Xh, Xl, Yh, Yl, and extAnd, extOr, extXor with Xhl, Yhl. Rests on the
spec's own decisions D11 and D14; logs 6 and 20. -/
def Obligations.LogicResult : Prop :=
  ∀ (i : Instr) (s : State) (op : AluOp) (lo : LogicOp) (f : Byte → Byte → Byte) (src : Source), i.form = .alu op src →
    (op = .and ∧ lo = .and ∧ f = (fun a b => a &&& b)) ∨ (op = .or ∧ lo = .or ∧ f = (fun a b => a ||| b)) ∨
      (op = .xor ∧ lo = .xor ∧ f = (fun a b => a ^^^ b)) →
    s.sourceAdmitted src = true →
    let b := s.sourceValue src
    exec i s = .next { s.afterSource src with
      regs := { s.regs with acc := f s.regs.acc b }
      flags :=
        { c := Config.logicCarry lo s.regs.acc b s.flags.c, n := (f s.regs.acc b).getLsbD 7, z := f s.regs.acc b == 0#8
          i := s.flags.i }
      pc := s.pc + BitVec.ofNat 16 i.length
      ext := if i.mode = .ext then false else s.ext }

/-- Tier 2. `LD`: the whole register receives the operand byte, and nothing else is written, no flag included (46_load_store.md
R340, R342 to R371, 48_extended_alu_load_store.md R461, R478 to R487). Constructors ld with every register and Abs, Zp, Hl, Imm
as listed, and extLd with every register and pair as listed. Rests on the spec's own decisions D5 and D6; logs 2 and 20. -/
def Obligations.LoadResult : Prop :=
  ∀ (i : Instr) (s : State) (r : Reg) (src : Source), i.form = .ld r src → s.sourceAdmitted src = true →
    exec i s = .next { s.afterSource src with
      regs := s.regs.set r (s.sourceValue src)
      pc := s.pc + BitVec.ofNat 16 i.length
      ext := if i.mode = .ext then false else s.ext }

/-- Tier 2. `STR`: one cell receives the register and nothing else is written (46_load_store.md R341, R372 to R393,
48_extended_alu_load_store.md R461, R488 to R497). Constructors str with every register and Abs, Zp, Hl as listed, and extStr
with every register and pair as listed. Rests on the spec's own decisions D5 and D6; logs 2 and 20. -/
def Obligations.StoreResult : Prop :=
  ∀ (i : Instr) (s : State) (r : Reg) (p : Place), i.form = .str r p →
    writeAdmitted (s.kindAt (effAddr p s)) = true →
    exec i s = .next { s.afterWrite (effAddr p s) (s.regs.get r) with
      pc := s.pc + BitVec.ofNat 16 i.length
      ext := if i.mode = .ext then false else s.ext }

/-- Tier 2. `MOV` of a register and of a pair: the destination receives the source, no flag is written; the pair form also
clears the latch (47_move.md R400 to R456, 49_extended_16bit.md R500 to R506). Constructors mov of any register into any other,
and extMov of any pair into any other. Rests on the spec's own decision D3; log 20. -/
def Obligations.MoveResult : Prop :=
  (∀ (i : Instr) (s : State) (x d : Reg), i.form = .mov x d →
    exec i s = .next { s with regs := s.regs.set d (s.regs.get x), pc := s.pc + 1#16 }) ∧
  ∀ (i : Instr) (s : State) (x d : Pair), i.form = .movPair x d →
    exec i s = .next { s with regs := s.regs.setPair d (s.regs.getPair x), pc := s.pc + 1#16, ext := false }

/-- Tier 2. `PSH` of a pair pushes the pair, `PSH PC` the address of the next instruction; SP moves by 2 and the latch clears
(49_extended_16bit.md R500, R507 to R510, 20_memory.md R78). Constructors extPshXhl, extPshYhl, extPshHl, extPshPc. Rests on the
spec's own decisions D7 to D10; logs 3, 4 and 20. -/
def Obligations.PushSixteenResult : Prop :=
  ∀ (i : Instr) (s : State) (v : Addr),
    (∃ p, i.form = .pshPair p ∧ v = s.regs.getPair p) ∨ (i.form = .pshPc ∧ v = s.pc + 1#16) →
    let a1 := s.stackAddr s.regs.sp
    let a2 := s.stackAddr (s.regs.sp + 1#8)
    writeAdmitted (s.kindAt a1) = true → writeAdmitted (s.kindAt a2) = true →
    exec i s = .next
      { (s.afterWrite a1 (if s.cfg.stackHighFirst then hiByte v else loByte v)).afterWrite a2
          (if s.cfg.stackHighFirst then loByte v else hiByte v) with
        regs := { s.regs with sp := s.regs.sp + 2#8 }
        pc := s.pc + 1#16
        ext := false }

/-- Tier 2. `POP` of a pair loads the pair, `POP PC` loads `pc`; SP moves by 2 and the latch clears (49_extended_16bit.md R500,
R511 to R514, 20_memory.md R79). Constructors extPopXhl, extPopYhl, extPopHl, extPopPc. Rests on the spec's own decisions D7 to
D9; logs 3, 4 and 20. -/
def Obligations.PopSixteenResult : Prop :=
  ∀ (i : Instr) (s : State),
    let a1 := s.stackAddr (s.regs.sp - 1#8)
    let a2 := s.stackAddr (s.regs.sp - 2#8)
    let top := s.readValue a1
    let next := (s.afterRead a1).readValue a2
    let v := if s.cfg.stackHighFirst then next ++ top else top ++ next
    readAdmitted (s.kindAt a1) = true → readAdmitted (s.kindAt a2) = true →
    (∀ p, i.form = .popPair p →
      exec i s = .next { (s.afterRead a1).afterRead a2 with
        regs := ({ s.regs with sp := s.regs.sp - 2#8 } : Regs).setPair p v, pc := s.pc + 1#16, ext := false }) ∧
    (i.form = .popPc →
      exec i s = .next { (s.afterRead a1).afterRead a2 with
        regs := { s.regs with sp := s.regs.sp - 2#8 }, pc := v, ext := false })

/-! Where there is no step. -/

/-- Tier 2. An instruction is stuck only on a data access of its own that is not admitted, and the fault names that cell and its
kind (20_memory.md R73, 60_exceptions.md R521). Rests on the spec's own decision D22; logs 15 and 20. -/
def Obligations.StuckNamesTheCell : Prop :=
  ∀ (i : Instr) (s : State) (f : Fault), exec i s = .fault f →
    (∃ a, a ∈ dataReads i.form s ++ dataWrites i.form s ∧ s.kindAt a = .absent ∧ f = .stuckAbsent a) ∨
    (∃ a, a ∈ dataWrites i.form s ∧ s.kindAt a = .rom ∧ f = .stuckRomWrite a)

/-- Tier 1. The fetch of an opcode byte from a device or an absent cell is stuck, and a halted machine takes no step
(20_memory.md R73, 10_state.md R50). Rests on the spec's own decisions D20 and D22; logs 14, 15, 17 and 20. -/
def Obligations.NoStepWithoutAFetch : Prop :=
  ∀ s : State,
    (s.run = .halted → step s = .fault .halted) ∧
    (s.run = .running → s.kindAt s.pc = .device → step s = .fault (.stuckDeviceFetch s.pc)) ∧
    (s.run = .running → s.kindAt s.pc = .absent → step s = .fault (.stuckAbsent s.pc))

/-- Tier 2. A taken `JSR` whose second stack write is not admitted has no step at all, whatever the first one is: never one
write and no jump (60_exceptions.md R521). Rests on the spec's own decision D22; logs 15 and 20. -/
def Obligations.CallIsAllOrNothing : Prop :=
  ∀ (i : Instr) (s : State) (k : Cond) (b1 b2 : Byte), i.form = .jsr k b1 b2 → condHolds k s.flags = true →
    writeAdmitted (s.kindAt (s.stackAddr (s.regs.sp + 1#8))) = false → ∃ f, exec i s = .fault f

/-! Frames and whole-machine rules. -/

/-- Tier 2. An instruction changes no register but its destination, and SP where it uses the stack (10_state.md R31 to R33).
Rests on the spec's own decisions D8 and D28; log 20. -/
def Obligations.RegisterFrame : Prop :=
  ∀ (i : Instr) (s t : State) (r : Reg), exec i s = .next t → writesReg i.form r = false → t.regs.get r = s.regs.get r

/-- Tier 2. The writers of each flag, complete: block 1 and its extended forms (`CMP` too, which keeps Acc) and the seven
accumulator operations write C, N and Z from the result of their own operation on the operands, Acc and the old C, and keep I;
`CLC`, `CLN`, `CLZ`, `CLI` clear one flag and `CLF` all four; every other instruction writes no flag (10_state.md R41). Rests on
the spec's own decisions D11 to D15; logs 5, 6 and 20. -/
def Obligations.FlagWriters : Prop :=
  ∀ (i : Instr) (s t : State), exec i s = .next t →
    (∀ (op : AluOp) (src : Source), i.form = .alu op src →
      let rc := aluResult s.cfg.subCarryOut op s.regs.acc (s.sourceValue src) s.flags.c
      t.flags = { c := rc.2, n := rc.1.getLsbD 7, z := rc.1 == 0#8, i := s.flags.i } ∧
      t.regs.acc = if op = .cmp then s.regs.acc else rc.1) ∧
    (∀ op : AccOp, i.form = .accOp op →
      let rc := accResult s.cfg.subCarryOut op s.regs.acc s.flags.c
      t.flags = { c := rc.2, n := rc.1.getLsbD 7, z := rc.1 == 0#8, i := s.flags.i } ∧ t.regs.acc = rc.1) ∧
    ((∀ op src, i.form ≠ .alu op src) → (∀ op, i.form ≠ .accOp op) →
      t.flags.c = (s.flags.c && i != .clc && i != .clf) ∧ t.flags.n = (s.flags.n && i != .cln && i != .clf) ∧
      t.flags.z = (s.flags.z && i != .clz && i != .clf) ∧ t.flags.i = (s.flags.i && i != .cli && i != .clf))

/-- Tier 2. The readers of each flag: an instruction that does not read a flag answers the same whatever the flag holds, but for
that flag itself (10_state.md R42; that the logic operations hand C to the open function is R46's). The environment answers a
device read alike on both sides (log 18). Rests on the spec's own decision D14; logs 6 and 20. -/
def Obligations.FlagReaders : Prop :=
  ∀ (i : Instr) (s : State) (x : FlagName) (b : Bool), readsFlag i.form x = false →
    match exec i s with
    | .next t => ∃ c, exec i (s.setFlags (s.flags.set x b)) = .next (t.setFlags (t.flags.set x c))
    | .fault f => exec i (s.setFlags (s.flags.set x b)) = .fault f
    | .refused r => exec i (s.setFlags (s.flags.set x b)) = .refused r

/-- Tier 2. Only the C output depends on `SUB_CARRY_OUT`: run under the other setting an instruction answers the same, but for C
and the setting itself, and C differs only where a result writes it (10_state.md R45). The environment answers a device read alike
on both sides (log 18). Rests on the spec's own decision D13; logs 5 and 20. -/
def Obligations.OnlyCarryDependsOnSubCarryOut : Prop :=
  ∀ (i : Instr) (s : State) (o : SubCarryOut),
    let s' := { s with cfg := { s.cfg with subCarryOut := o } }
    match exec i s with
    | .next t => ∃ c, exec i s' = .next { t with cfg := s'.cfg, flags := { t.flags with c := c } } ∧
        (writesResultFlags i.form = false → c = t.flags.c)
    | .fault f => exec i s' = .fault f
    | .refused r => exec i s' = .refused r

/-- Tier 2. An instruction changes no byte of memory but those it stores to, at the addresses computed before it runs, and no
cell that is not ram (20_memory.md R72, R73). Rests on the spec's own decision D22; logs 18 and 20. -/
def Obligations.MemoryFrame : Prop :=
  ∀ (i : Instr) (s t : State) (a : Addr), exec i s = .next t →
    a ∉ dataWrites i.form s ∨ s.kindAt a ≠ .ram → t.mem.read a = s.mem.read a

/-- Tier 2. Every instruction but `JMP`, `JSR`, `RTN` and `POP PC` ends with `pc` at the next instruction (10_state.md R37, R39,
60_exceptions.md R524). Rests on the spec's own decision D16; log 20. -/
def Obligations.ProgramCounterWriters : Prop :=
  ∀ (i : Instr) (s t : State), exec i s = .next t → mayJump i.form = false → t.pc = s.pc + BitVec.ofNat 16 i.length

/-- Tier 2. The extended-mode latch is set after a step exactly when the step ran `EXT`; so an extended instruction always
clears it, whatever it was (10_state.md R49, 30_encoding.md R108). Rests on the spec's own decision D17; logs 19 and 20. -/
def Obligations.LatchLaw : Prop :=
  ∀ s t : State, step s = .next t → (t.ext = true ↔ s.ready .ext)

/-- Tier 2. The machine halts on `HLT` and on nothing else, with the latch clear and `pc` after the `HLT` (60_exceptions.md
R531, 10_state.md R50). Rests on the spec's own decision D20; log 20. -/
def Obligations.OnlyHaltHalts : Prop :=
  ∀ s t : State, step s = .next t →
    (t.run = .halted ↔ s.ready .hlt) ∧ (t.run = .halted → t.ext = false ∧ t.pc = s.pc + 1#16)

/-- Tier 2. Over a step I becomes what it was or 1 by the environment's draw, listed or free, and is cleared by `CLI` and `CLF` only, after the
draw (10_state.md R48, 60_exceptions.md R523). Rests on the spec's own decision D19; logs 7 and 20. -/
def Obligations.InterruptFlagOverAStep : Prop :=
  ∀ (s t : State) (i : Instr), s.ready i → step s = .next t →
    t.flags.i = ((s.flags.i || s.iDraws.headD (Config.iRaise s.iCount)) && i != .cli && i != .clf)

/-- Tier 2. A step leaves the configuration as it is, uses up one draw, only counts device reads up and only adds to the device
log (00_scope.md R6, 10_state.md R55). Rests on the spec's own decision D19; logs 1, 7, 18 and 20. -/
def Obligations.StepKeepsTheConfiguration : Prop :=
  ∀ s t : State, step s = .next t →
    t.cfg = s.cfg ∧ t.iDraws = s.iDraws.tail ∧ t.iCount = s.iCount + 1 ∧ s.deviceReads ≤ t.deviceReads ∧
      ∃ events, t.deviceLog = s.deviceLog ++ events

/-- Tier 3. Every step keeps the invariant: memory and device log keep their forms, the memory map stays in order, and a halted
machine has the latch clear (20_memory.md R70, 60_exceptions.md R531). Rests on the spec's own decision D20; logs 9, 12, 18 and
20. -/
def Obligations.EveryStepKeepsTheInvariant : Prop :=
  ∀ s t : State, s.Inv → step s = .next t → t.Inv

/-- Tier 1. The launch state meets the two launch premises and the invariant (10_state.md R54). Rests on the spec's own decision
D21; logs 8 to 13 and 20. -/
def Obligations.ResetIsALaunchState : Prop := State.reset.Launch ∧ State.reset.Inv

/-- Tier 2. `EXT` and an extended opcode byte at two consecutive addresses run as two steps: after its boundary the first only
sets the latch and advances `pc`, the second runs the extended instruction at its own address and leaves the latch clear
(30_encoding.md R118). Rests on the spec's own decision D17; log 20. -/
def Obligations.PrefixThenExtended : Prop :=
  ∀ (s : State) (i : Instr), s.run = .running → s.ext = false → i.mode = .ext → s.holds (0x30#8 :: encode i) →
    let t : State := { boundary s with ext := true, pc := s.pc + 1#16 }
    step s = .next t ∧ step t = exec i (boundary t) ∧ ∀ u, step t = .next u → u.ext = false

/-- Tier 2. A subroutine call and its return: after `JSR u` the machine is at the operand, and `RTN u` there comes back to the
instruction after the call with every register and flag as before, for every SP and both byte orders (41_program_flow.md R170,
R178). Rests on the spec's own decisions D5 and D7 to D10; log 20. -/
def Obligations.CallThenReturn : Prop :=
  ∀ (s : State) (b1 b2 : Byte), s.mem.wf = true → s.kindAt (s.stackAddr s.regs.sp) = .ram →
    s.kindAt (s.stackAddr (s.regs.sp + 1#8)) = .ram →
    ∃ t u, exec (.jsrU b1 b2) s = .next t ∧ t.pc = absOperand s.cfg b1 b2 ∧
      exec .rtnU t = .next u ∧ u.pc = s.pc + 3#16 ∧ u.regs = s.regs ∧ u.flags = s.flags

/-- Tier 2. Under `STACK_HIGH_FIRST` the 16-bit push of Xhl is `PSH Xh` followed by `PSH Xl`: the same registers, memory, flags
and device events (20_memory.md R78). Rests on the spec's own decision D9; log 20. -/
def Obligations.PairPushIsTwoPushes : Prop :=
  ∀ s t : State, s.cfg.stackHighFirst = true → exec .extPshXhl s = .next t →
    ∃ u v, exec .pshXh s = .next u ∧ exec .pshXl u = .next v ∧
      v.regs = t.regs ∧ v.mem = t.mem ∧ v.flags = t.flags ∧ v.deviceLog = t.deviceLog

/-- Tier 1. The front panel: nothing on a running machine; on a halted one each action writes its one register, flag, `pc` or
memory cell and nothing else, so the machine stays halted, and `continue` sets `run` and nothing else (60_exceptions.md R533,
10_state.md R50). Writing a cell whatever `MemMap` says, and clearing I, are the model's choices (logs 30 and 31). Rests on the
spec's own decisions D20 and D32; logs 23, 30, 31 and 20. -/
def Obligations.FrontPanelRules : Prop :=
  ∀ s : State,
    (s.run = .running → ∀ a, frontPanel a s = .refused .panelWhileRunning) ∧
    (s.run = .halted →
      (∀ r v, frontPanel (.writeReg r v) s = .next { s with regs := s.regs.set r v }) ∧
      (∀ b, frontPanel (.writeFlag .c b) s = .next { s with flags := { s.flags with c := b } }) ∧
      (∀ b, frontPanel (.writeFlag .n b) s = .next { s with flags := { s.flags with n := b } }) ∧
      (∀ b, frontPanel (.writeFlag .z b) s = .next { s with flags := { s.flags with z := b } }) ∧
      (∀ b, frontPanel (.writeFlag .i b) s = .next { s with flags := { s.flags with i := b } }) ∧
      (∀ a, frontPanel (.writePc a) s = .next { s with pc := a }) ∧
      (∀ a v, frontPanel (.writeMem a v) s = .next { s with mem := s.mem.write a v }) ∧
      frontPanel .goOn s = .next { s with run := .running })

/-- Tier 1. `EXT` costs 2 cycles of its own and is not counted in an extended row, which is 1 byte long; so an extended
instruction as written in a program costs 2 bytes and its listed cycles plus 2; `EXT; PSH HL` costs 8
(70_reset_and_hazards.md R572). -/
def Obligations.PrefixCost : Prop :=
  instrCycles .ext = 2 ∧ writtenCycles .extPshHl = 8 ∧
    ∀ i : Instr, i.mode = .ext → i.length = 1 ∧ (writtenBytes i).length = 2 ∧ writtenCycles i = instrCycles i + 2

end
end

