-- ==== Sys2Proof/Laws/State.lean ====
section
/-! SUPPORT. One lemma per field per update of the state, all tagged simp, so that no later proof unfolds a record update. -/

namespace Sys2Proof.Machine

section
variable (s : State)

/-! `setReg`. -/

@[simp] theorem State.setReg_regs (r : Reg) (v : Byte) : (s.setReg r v).regs = s.regs.set r v := rfl

@[simp] theorem State.setReg_pc (r : Reg) (v : Byte) : (s.setReg r v).pc = s.pc := rfl

@[simp] theorem State.setReg_flags (r : Reg) (v : Byte) : (s.setReg r v).flags = s.flags := rfl

@[simp] theorem State.setReg_ext (r : Reg) (v : Byte) : (s.setReg r v).ext = s.ext := rfl

@[simp] theorem State.setReg_run (r : Reg) (v : Byte) : (s.setReg r v).run = s.run := rfl

@[simp] theorem State.setReg_mem (r : Reg) (v : Byte) : (s.setReg r v).mem = s.mem := rfl

@[simp] theorem State.setReg_cfg (r : Reg) (v : Byte) : (s.setReg r v).cfg = s.cfg := rfl

@[simp] theorem State.setReg_iDraws (r : Reg) (v : Byte) : (s.setReg r v).iDraws = s.iDraws := rfl

@[simp] theorem State.setReg_iCount (r : Reg) (v : Byte) : (s.setReg r v).iCount = s.iCount := rfl

@[simp] theorem State.setReg_deviceReads (r : Reg) (v : Byte) : (s.setReg r v).deviceReads = s.deviceReads := rfl

@[simp] theorem State.setReg_deviceLog (r : Reg) (v : Byte) : (s.setReg r v).deviceLog = s.deviceLog := rfl

/-! `setPair`. -/

@[simp] theorem State.setPair_regs (p : Pair) (v : Addr) : (s.setPair p v).regs = s.regs.setPair p v := rfl

@[simp] theorem State.setPair_pc (p : Pair) (v : Addr) : (s.setPair p v).pc = s.pc := rfl

@[simp] theorem State.setPair_flags (p : Pair) (v : Addr) : (s.setPair p v).flags = s.flags := rfl

@[simp] theorem State.setPair_ext (p : Pair) (v : Addr) : (s.setPair p v).ext = s.ext := rfl

@[simp] theorem State.setPair_run (p : Pair) (v : Addr) : (s.setPair p v).run = s.run := rfl

@[simp] theorem State.setPair_mem (p : Pair) (v : Addr) : (s.setPair p v).mem = s.mem := rfl

@[simp] theorem State.setPair_cfg (p : Pair) (v : Addr) : (s.setPair p v).cfg = s.cfg := rfl

@[simp] theorem State.setPair_iDraws (p : Pair) (v : Addr) : (s.setPair p v).iDraws = s.iDraws := rfl

@[simp] theorem State.setPair_iCount (p : Pair) (v : Addr) : (s.setPair p v).iCount = s.iCount := rfl

@[simp] theorem State.setPair_deviceReads (p : Pair) (v : Addr) : (s.setPair p v).deviceReads = s.deviceReads := rfl

@[simp] theorem State.setPair_deviceLog (p : Pair) (v : Addr) : (s.setPair p v).deviceLog = s.deviceLog := rfl

/-! `setPc`. -/

@[simp] theorem State.setPc_regs (a : Addr) : (s.setPc a).regs = s.regs := rfl

@[simp] theorem State.setPc_pc (a : Addr) : (s.setPc a).pc = a := rfl

@[simp] theorem State.setPc_flags (a : Addr) : (s.setPc a).flags = s.flags := rfl

@[simp] theorem State.setPc_ext (a : Addr) : (s.setPc a).ext = s.ext := rfl

@[simp] theorem State.setPc_run (a : Addr) : (s.setPc a).run = s.run := rfl

@[simp] theorem State.setPc_mem (a : Addr) : (s.setPc a).mem = s.mem := rfl

@[simp] theorem State.setPc_cfg (a : Addr) : (s.setPc a).cfg = s.cfg := rfl

@[simp] theorem State.setPc_iDraws (a : Addr) : (s.setPc a).iDraws = s.iDraws := rfl

@[simp] theorem State.setPc_iCount (a : Addr) : (s.setPc a).iCount = s.iCount := rfl

@[simp] theorem State.setPc_deviceReads (a : Addr) : (s.setPc a).deviceReads = s.deviceReads := rfl

@[simp] theorem State.setPc_deviceLog (a : Addr) : (s.setPc a).deviceLog = s.deviceLog := rfl

/-! `advance`. -/

@[simp] theorem State.advance_regs (n : Nat) : (s.advance n).regs = s.regs := rfl

@[simp] theorem State.advance_pc (n : Nat) : (s.advance n).pc = s.pc + BitVec.ofNat 16 n := rfl

@[simp] theorem State.advance_flags (n : Nat) : (s.advance n).flags = s.flags := rfl

@[simp] theorem State.advance_ext (n : Nat) : (s.advance n).ext = s.ext := rfl

@[simp] theorem State.advance_run (n : Nat) : (s.advance n).run = s.run := rfl

@[simp] theorem State.advance_mem (n : Nat) : (s.advance n).mem = s.mem := rfl

@[simp] theorem State.advance_cfg (n : Nat) : (s.advance n).cfg = s.cfg := rfl

@[simp] theorem State.advance_iDraws (n : Nat) : (s.advance n).iDraws = s.iDraws := rfl

@[simp] theorem State.advance_iCount (n : Nat) : (s.advance n).iCount = s.iCount := rfl

@[simp] theorem State.advance_deviceReads (n : Nat) : (s.advance n).deviceReads = s.deviceReads := rfl

@[simp] theorem State.advance_deviceLog (n : Nat) : (s.advance n).deviceLog = s.deviceLog := rfl

/-! `setFlags`. -/

@[simp] theorem State.setFlags_regs (f : Flags) : (s.setFlags f).regs = s.regs := rfl

@[simp] theorem State.setFlags_pc (f : Flags) : (s.setFlags f).pc = s.pc := rfl

@[simp] theorem State.setFlags_flags (f : Flags) : (s.setFlags f).flags = f := rfl

@[simp] theorem State.setFlags_ext (f : Flags) : (s.setFlags f).ext = s.ext := rfl

@[simp] theorem State.setFlags_run (f : Flags) : (s.setFlags f).run = s.run := rfl

@[simp] theorem State.setFlags_mem (f : Flags) : (s.setFlags f).mem = s.mem := rfl

@[simp] theorem State.setFlags_cfg (f : Flags) : (s.setFlags f).cfg = s.cfg := rfl

@[simp] theorem State.setFlags_iDraws (f : Flags) : (s.setFlags f).iDraws = s.iDraws := rfl

@[simp] theorem State.setFlags_iCount (f : Flags) : (s.setFlags f).iCount = s.iCount := rfl

@[simp] theorem State.setFlags_deviceReads (f : Flags) : (s.setFlags f).deviceReads = s.deviceReads := rfl

@[simp] theorem State.setFlags_deviceLog (f : Flags) : (s.setFlags f).deviceLog = s.deviceLog := rfl

/-! `setExt`. -/

@[simp] theorem State.setExt_regs (b : Bool) : (s.setExt b).regs = s.regs := rfl

@[simp] theorem State.setExt_pc (b : Bool) : (s.setExt b).pc = s.pc := rfl

@[simp] theorem State.setExt_flags (b : Bool) : (s.setExt b).flags = s.flags := rfl

@[simp] theorem State.setExt_ext (b : Bool) : (s.setExt b).ext = b := rfl

@[simp] theorem State.setExt_run (b : Bool) : (s.setExt b).run = s.run := rfl

@[simp] theorem State.setExt_mem (b : Bool) : (s.setExt b).mem = s.mem := rfl

@[simp] theorem State.setExt_cfg (b : Bool) : (s.setExt b).cfg = s.cfg := rfl

@[simp] theorem State.setExt_iDraws (b : Bool) : (s.setExt b).iDraws = s.iDraws := rfl

@[simp] theorem State.setExt_iCount (b : Bool) : (s.setExt b).iCount = s.iCount := rfl

@[simp] theorem State.setExt_deviceReads (b : Bool) : (s.setExt b).deviceReads = s.deviceReads := rfl

@[simp] theorem State.setExt_deviceLog (b : Bool) : (s.setExt b).deviceLog = s.deviceLog := rfl

/-! `setRun`. -/

@[simp] theorem State.setRun_regs (r : RunState) : (s.setRun r).regs = s.regs := rfl

@[simp] theorem State.setRun_pc (r : RunState) : (s.setRun r).pc = s.pc := rfl

@[simp] theorem State.setRun_flags (r : RunState) : (s.setRun r).flags = s.flags := rfl

@[simp] theorem State.setRun_ext (r : RunState) : (s.setRun r).ext = s.ext := rfl

@[simp] theorem State.setRun_run (r : RunState) : (s.setRun r).run = r := rfl

@[simp] theorem State.setRun_mem (r : RunState) : (s.setRun r).mem = s.mem := rfl

@[simp] theorem State.setRun_cfg (r : RunState) : (s.setRun r).cfg = s.cfg := rfl

@[simp] theorem State.setRun_iDraws (r : RunState) : (s.setRun r).iDraws = s.iDraws := rfl

@[simp] theorem State.setRun_iCount (r : RunState) : (s.setRun r).iCount = s.iCount := rfl

@[simp] theorem State.setRun_deviceReads (r : RunState) : (s.setRun r).deviceReads = s.deviceReads := rfl

@[simp] theorem State.setRun_deviceLog (r : RunState) : (s.setRun r).deviceLog = s.deviceLog := rfl

/-! `setMem`. -/

@[simp] theorem State.setMem_regs (m : Memory) : (s.setMem m).regs = s.regs := rfl

@[simp] theorem State.setMem_pc (m : Memory) : (s.setMem m).pc = s.pc := rfl

@[simp] theorem State.setMem_flags (m : Memory) : (s.setMem m).flags = s.flags := rfl

@[simp] theorem State.setMem_ext (m : Memory) : (s.setMem m).ext = s.ext := rfl

@[simp] theorem State.setMem_run (m : Memory) : (s.setMem m).run = s.run := rfl

@[simp] theorem State.setMem_mem (m : Memory) : (s.setMem m).mem = m := rfl

@[simp] theorem State.setMem_cfg (m : Memory) : (s.setMem m).cfg = s.cfg := rfl

@[simp] theorem State.setMem_iDraws (m : Memory) : (s.setMem m).iDraws = s.iDraws := rfl

@[simp] theorem State.setMem_iCount (m : Memory) : (s.setMem m).iCount = s.iCount := rfl

@[simp] theorem State.setMem_deviceReads (m : Memory) : (s.setMem m).deviceReads = s.deviceReads := rfl

@[simp] theorem State.setMem_deviceLog (m : Memory) : (s.setMem m).deviceLog = s.deviceLog := rfl

/-! A data read: only the count of device reads can change. -/

@[simp] theorem State.afterRead_regs (a : Addr) : (s.afterRead a).regs = s.regs := by
  unfold State.afterRead; split <;> rfl

@[simp] theorem State.afterRead_pc (a : Addr) : (s.afterRead a).pc = s.pc := by
  unfold State.afterRead; split <;> rfl

@[simp] theorem State.afterRead_flags (a : Addr) : (s.afterRead a).flags = s.flags := by
  unfold State.afterRead; split <;> rfl

@[simp] theorem State.afterRead_ext (a : Addr) : (s.afterRead a).ext = s.ext := by
  unfold State.afterRead; split <;> rfl

@[simp] theorem State.afterRead_run (a : Addr) : (s.afterRead a).run = s.run := by
  unfold State.afterRead; split <;> rfl

@[simp] theorem State.afterRead_mem (a : Addr) : (s.afterRead a).mem = s.mem := by
  unfold State.afterRead; split <;> rfl

@[simp] theorem State.afterRead_cfg (a : Addr) : (s.afterRead a).cfg = s.cfg := by
  unfold State.afterRead; split <;> rfl

@[simp] theorem State.afterRead_iDraws (a : Addr) : (s.afterRead a).iDraws = s.iDraws := by
  unfold State.afterRead; split <;> rfl

@[simp] theorem State.afterRead_iCount (a : Addr) : (s.afterRead a).iCount = s.iCount := by
  unfold State.afterRead; split <;> rfl

@[simp] theorem State.afterRead_deviceLog (a : Addr) : (s.afterRead a).deviceLog = s.deviceLog := by
  unfold State.afterRead; split <;> rfl

/-! A write: only memory and the device log can change. -/

@[simp] theorem State.afterWrite_regs (a : Addr) (v : Byte) : (s.afterWrite a v).regs = s.regs := by
  unfold State.afterWrite; split <;> rfl

@[simp] theorem State.afterWrite_pc (a : Addr) (v : Byte) : (s.afterWrite a v).pc = s.pc := by
  unfold State.afterWrite; split <;> rfl

@[simp] theorem State.afterWrite_flags (a : Addr) (v : Byte) : (s.afterWrite a v).flags = s.flags := by
  unfold State.afterWrite; split <;> rfl

@[simp] theorem State.afterWrite_ext (a : Addr) (v : Byte) : (s.afterWrite a v).ext = s.ext := by
  unfold State.afterWrite; split <;> rfl

@[simp] theorem State.afterWrite_run (a : Addr) (v : Byte) : (s.afterWrite a v).run = s.run := by
  unfold State.afterWrite; split <;> rfl

@[simp] theorem State.afterWrite_cfg (a : Addr) (v : Byte) : (s.afterWrite a v).cfg = s.cfg := by
  unfold State.afterWrite; split <;> rfl

@[simp] theorem State.afterWrite_iDraws (a : Addr) (v : Byte) : (s.afterWrite a v).iDraws = s.iDraws := by
  unfold State.afterWrite; split <;> rfl

@[simp] theorem State.afterWrite_iCount (a : Addr) (v : Byte) : (s.afterWrite a v).iCount = s.iCount := by
  unfold State.afterWrite; split <;> rfl

@[simp] theorem State.afterWrite_deviceReads (a : Addr) (v : Byte) : (s.afterWrite a v).deviceReads = s.deviceReads := by
  unfold State.afterWrite; split <;> rfl

/-! The instruction boundary: only I, the draws and their number can change. -/

@[simp] theorem boundary_regs : (boundary s).regs = s.regs := rfl

@[simp] theorem boundary_pc : (boundary s).pc = s.pc := rfl

@[simp] theorem boundary_ext : (boundary s).ext = s.ext := rfl

@[simp] theorem boundary_run : (boundary s).run = s.run := rfl

@[simp] theorem boundary_mem : (boundary s).mem = s.mem := rfl

@[simp] theorem boundary_cfg : (boundary s).cfg = s.cfg := rfl

@[simp] theorem boundary_deviceReads : (boundary s).deviceReads = s.deviceReads := rfl

@[simp] theorem boundary_deviceLog : (boundary s).deviceLog = s.deviceLog := rfl

@[simp] theorem boundary_c : (boundary s).flags.c = s.flags.c := rfl

@[simp] theorem boundary_n : (boundary s).flags.n = s.flags.n := rfl

@[simp] theorem boundary_z : (boundary s).flags.z = s.flags.z := rfl

@[simp] theorem boundary_i : (boundary s).flags.i = (s.flags.i || s.iRaise) := rfl

@[simp] theorem boundary_iDraws : (boundary s).iDraws = s.iDraws.tail := rfl

@[simp] theorem boundary_iCount : (boundary s).iCount = s.iCount + 1 := rfl

/-! Which memory kind an address has depends on the configuration alone. -/

theorem State.kindAt_congr {s t : State} (h : t.cfg = s.cfg) (a : Addr) : t.kindAt a = s.kindAt a := by
  simp [State.kindAt, h]

@[simp] theorem State.setReg_kindAt (r : Reg) (v : Byte) (x : Addr) : (s.setReg r v).kindAt x = s.kindAt x :=
  State.kindAt_congr (by simp) x

@[simp] theorem State.setPair_kindAt (p : Pair) (v : Addr) (x : Addr) : (s.setPair p v).kindAt x = s.kindAt x :=
  State.kindAt_congr (by simp) x

@[simp] theorem State.setPc_kindAt (a : Addr) (x : Addr) : (s.setPc a).kindAt x = s.kindAt x :=
  State.kindAt_congr (by simp) x

@[simp] theorem State.advance_kindAt (n : Nat) (x : Addr) : (s.advance n).kindAt x = s.kindAt x :=
  State.kindAt_congr (by simp) x

@[simp] theorem State.setFlags_kindAt (f : Flags) (x : Addr) : (s.setFlags f).kindAt x = s.kindAt x :=
  State.kindAt_congr (by simp) x

@[simp] theorem State.setExt_kindAt (b : Bool) (x : Addr) : (s.setExt b).kindAt x = s.kindAt x :=
  State.kindAt_congr (by simp) x

@[simp] theorem State.setRun_kindAt (r : RunState) (x : Addr) : (s.setRun r).kindAt x = s.kindAt x :=
  State.kindAt_congr (by simp) x

@[simp] theorem State.setMem_kindAt (m : Memory) (x : Addr) : (s.setMem m).kindAt x = s.kindAt x :=
  State.kindAt_congr (by simp) x

@[simp] theorem State.afterRead_kindAt (a : Addr) (x : Addr) : (s.afterRead a).kindAt x = s.kindAt x :=
  State.kindAt_congr (by simp) x

@[simp] theorem State.afterWrite_kindAt (a : Addr) (v : Byte) (x : Addr) : (s.afterWrite a v).kindAt x = s.kindAt x :=
  State.kindAt_congr (by simp) x

@[simp] theorem boundary_kindAt (x : Addr) : (boundary s).kindAt x = s.kindAt x :=
  State.kindAt_congr (by simp) x

@[simp] theorem State.setReg_stackAddr (r : Reg) (v : Byte) (x : Byte) : (s.setReg r v).stackAddr x = s.stackAddr x := by
  simp [State.stackAddr]

@[simp] theorem State.setPair_stackAddr (p : Pair) (v : Addr) (x : Byte) : (s.setPair p v).stackAddr x = s.stackAddr x := by
  simp [State.stackAddr]

@[simp] theorem State.setPc_stackAddr (a : Addr) (x : Byte) : (s.setPc a).stackAddr x = s.stackAddr x := by
  simp [State.stackAddr]

@[simp] theorem State.advance_stackAddr (n : Nat) (x : Byte) : (s.advance n).stackAddr x = s.stackAddr x := by
  simp [State.stackAddr]

@[simp] theorem State.setFlags_stackAddr (f : Flags) (x : Byte) : (s.setFlags f).stackAddr x = s.stackAddr x := by
  simp [State.stackAddr]

@[simp] theorem State.setExt_stackAddr (b : Bool) (x : Byte) : (s.setExt b).stackAddr x = s.stackAddr x := by
  simp [State.stackAddr]

@[simp] theorem State.setRun_stackAddr (r : RunState) (x : Byte) : (s.setRun r).stackAddr x = s.stackAddr x := by
  simp [State.stackAddr]

@[simp] theorem State.setMem_stackAddr (m : Memory) (x : Byte) : (s.setMem m).stackAddr x = s.stackAddr x := by
  simp [State.stackAddr]

@[simp] theorem State.afterRead_stackAddr (a : Addr) (x : Byte) : (s.afterRead a).stackAddr x = s.stackAddr x := by
  simp [State.stackAddr]

@[simp] theorem State.afterWrite_stackAddr (a : Addr) (v : Byte) (x : Byte) : (s.afterWrite a v).stackAddr x = s.stackAddr x := by
  simp [State.stackAddr]

@[simp] theorem boundary_stackAddr (x : Byte) : (boundary s).stackAddr x = s.stackAddr x := by
  simp [State.stackAddr]

@[simp] theorem boundary_mode : (boundary s).mode = s.mode := rfl

end

end Sys2Proof.Machine
end

