-- ==== Sys2Proof/Laws/Memory.lean ====
section
/-! SUPPORT. Memory: a read after a write, the canonical form kept by every write, and equal contents being equal data
(20_memory.md R70, R73, R86). -/

namespace Sys2Proof.Machine

theorem Memory.readAt_writeAt_of_ne (m : Memory) {k j : Nat} (v : Byte) (h : j ≠ k) :
    (m.writeAt k v).readAt j = m.readAt j := by
  induction m with
  | nil =>
    unfold Memory.writeAt
    split <;> simp [Memory.readAt, Ne.symm h]
  | cons c rest ih =>
    obtain ⟨a, w⟩ := c
    unfold Memory.writeAt
    by_cases ha : a = k
    · subst ha
      by_cases hv : v = Memory.unlisted <;> simp [hv, Memory.readAt, Ne.symm h]
    · by_cases hk : k < a
      · by_cases hv : v = Memory.unlisted <;> simp [ha, hk, hv, Memory.readAt, Ne.symm h]
      · simp only [ha, hk, if_false, Memory.readAt]
        split
        · rfl
        · exact ih

/-- Below the first key of a rising list nothing is listed. -/
theorem Memory.readAt_of_lt (m : Memory) {low k : Nat} (hm : Memory.wfFrom low m = true) (h : k < low) :
    m.readAt k = Memory.unlisted := by
  induction m generalizing low with
  | nil => rfl
  | cons c rest ih =>
    obtain ⟨a, w⟩ := c
    simp only [Memory.wfFrom, Bool.and_eq_true, decide_eq_true_eq] at hm
    have : a ≠ k := by omega
    simp only [Memory.readAt, this, if_false]
    exact ih hm.2 (by omega)

theorem Memory.readAt_writeAt_self (m : Memory) {low : Nat} (hm : Memory.wfFrom low m = true) (k : Nat) (v : Byte) :
    (m.writeAt k v).readAt k = v := by
  induction m generalizing low with
  | nil =>
    unfold Memory.writeAt
    split
    · next h => simp [Memory.readAt, h]
    · simp [Memory.readAt]
  | cons c rest ih =>
    obtain ⟨a, w⟩ := c
    simp only [Memory.wfFrom, Bool.and_eq_true, decide_eq_true_eq] at hm
    unfold Memory.writeAt
    by_cases ha : a = k
    · subst ha
      by_cases hv : v = Memory.unlisted
      · simp [hv, Memory.readAt_of_lt rest hm.2 (Nat.lt_succ_self a)]
      · simp [hv, Memory.readAt]
    · by_cases hk : k < a
      · by_cases hv : v = Memory.unlisted
        · simp [ha, hk, hv, Memory.readAt, Memory.readAt_of_lt rest hm.2 (by omega : k < a + 1)]
        · simp [ha, hk, hv, Memory.readAt]
      · simp only [ha, hk, if_false, Memory.readAt]
        exact ih hm.2

theorem Memory.wfFrom_mono (m : Memory) {a b : Nat} (h : Memory.wfFrom b m = true) (hab : a ≤ b) :
    Memory.wfFrom a m = true := by
  cases m with
  | nil => rfl
  | cons c rest =>
    simp only [Memory.wfFrom, Bool.and_eq_true, decide_eq_true_eq] at h ⊢
    exact ⟨⟨⟨by omega, h.1.1.2⟩, h.1.2⟩, h.2⟩

theorem Memory.wfFrom_writeAt (m : Memory) {low k : Nat} (hm : Memory.wfFrom low m = true) (hl : low ≤ k)
    (hk : k < 65536) (v : Byte) : Memory.wfFrom low (m.writeAt k v) = true := by
  induction m generalizing low with
  | nil =>
    unfold Memory.writeAt
    split
    · rfl
    · simp_all [Memory.wfFrom]
  | cons c rest ih =>
    obtain ⟨a, w⟩ := c
    have hm' := hm
    simp only [Memory.wfFrom, Bool.and_eq_true, decide_eq_true_eq] at hm
    obtain ⟨⟨⟨h1, h2⟩, h3⟩, h4⟩ := hm
    unfold Memory.writeAt
    by_cases ha : a = k
    · subst ha
      by_cases hv : v = Memory.unlisted
      · simp only [hv, if_true]
        exact Memory.wfFrom_mono rest h4 (by omega)
      · simp [hv, Memory.wfFrom, h1, h2, h4]
    · by_cases hka : k < a
      · by_cases hv : v = Memory.unlisted
        · simp only [ha, hka, hv, if_true, if_false]; exact hm'
        · simp [ha, hka, hv, Memory.wfFrom, hl, hk, h2, h3, h4]
      · simp only [ha, hka, if_false, Memory.wfFrom]
        simp [h1, h2, h3, ih h4 (by omega)]

/-- Two canonical lists that read the same everywhere are the same list. -/
theorem Memory.eq_of_readAt (m m' : Memory) {low : Nat} (h : Memory.wfFrom low m = true)
    (h' : Memory.wfFrom low m' = true) (hr : ∀ k, m.readAt k = m'.readAt k) : m = m' := by
  induction m generalizing low m' with
  | nil =>
    cases m' with
    | nil => rfl
    | cons c rest =>
      obtain ⟨a, w⟩ := c
      simp only [Memory.wfFrom, Bool.and_eq_true, decide_eq_true_eq] at h'
      have := hr a
      simp [Memory.readAt] at this
      exact absurd this.symm h'.1.2
  | cons c rest ih =>
    obtain ⟨a, w⟩ := c
    have hw := h
    simp only [Memory.wfFrom, Bool.and_eq_true, decide_eq_true_eq] at h
    cases m' with
    | nil =>
      have := hr a
      simp [Memory.readAt] at this
      exact absurd this h.1.2
    | cons c' rest' =>
      obtain ⟨a', w'⟩ := c'
      have hw' := h'
      simp only [Memory.wfFrom, Bool.and_eq_true, decide_eq_true_eq] at h'
      rcases Nat.lt_trichotomy a a' with hlt | heq | hgt
      · have := hr a
        rw [show Memory.readAt ((a, w) :: rest) a = w by simp [Memory.readAt],
          Memory.readAt_of_lt ((a', w') :: rest') (low := a') (by simp [Memory.wfFrom, h']) hlt] at this
        exact absurd this h.1.2
      · subst heq
        have hv := hr a
        simp [Memory.readAt] at hv
        subst hv
        have : rest = rest' := by
          apply ih rest' h.2 h'.2
          intro k
          by_cases hk : a = k
          · subst hk
            rw [Memory.readAt_of_lt rest h.2 (Nat.lt_succ_self a), Memory.readAt_of_lt rest' h'.2 (Nat.lt_succ_self a)]
          · have := hr k
            simpa [Memory.readAt, hk] using this
        rw [this]
      · have := hr a'
        rw [show Memory.readAt ((a', w') :: rest') a' = w' by simp [Memory.readAt],
          Memory.readAt_of_lt ((a, w) :: rest) (low := a) (by simp [Memory.wfFrom, h]) hgt] at this
        exact absurd this.symm h'.1.2

/-! The same at 16-bit addresses. -/

theorem Memory.read_write_of_ne (m : Memory) {a b : Addr} (v : Byte) (h : b ≠ a) : (m.write a v).read b = m.read b :=
  Memory.readAt_writeAt_of_ne m v (fun e => h (BitVec.eq_of_toNat_eq e))

theorem Memory.read_write_self (m : Memory) (hm : m.wf = true) (a : Addr) (v : Byte) : (m.write a v).read a = v :=
  Memory.readAt_writeAt_self m hm a.toNat v

theorem Memory.wf_write (m : Memory) (hm : m.wf = true) (a : Addr) (v : Byte) : (m.write a v).wf = true :=
  Memory.wfFrom_writeAt m hm (Nat.zero_le _) a.isLt v

theorem Memory.wf_loadBytes (m : Memory) (hm : m.wf = true) (a : Addr) (bs : List Byte) :
    (loadBytes m a bs).wf = true := by
  induction bs generalizing m a with
  | nil => exact hm
  | cons b rest ih => exact ih (m.write a b) (Memory.wf_write m hm a b) (a + 1#16)

/-- A canonical list lists addresses below 2^16 only. -/
theorem Memory.readAt_of_ge (m : Memory) {low k : Nat} (hm : Memory.wfFrom low m = true) (h : 65536 ≤ k) :
    m.readAt k = Memory.unlisted := by
  induction m generalizing low with
  | nil => rfl
  | cons c rest ih =>
    obtain ⟨a, w⟩ := c
    simp only [Memory.wfFrom, Bool.and_eq_true, decide_eq_true_eq] at hm
    have : a ≠ k := by omega
    simp only [Memory.readAt, this, if_false]
    exact ih hm.2

/-- Equal contents are equal data. -/
theorem Memory.eq_of_read (m m' : Memory) (h : m.wf = true) (h' : m'.wf = true) (hr : ∀ a : Addr, m.read a = m'.read a) :
    m = m' := by
  apply Memory.eq_of_readAt m m' h h'
  intro k
  by_cases hk : k < 65536
  · have := hr (BitVec.ofNat 16 k)
    simpa [Memory.read, Nat.mod_eq_of_lt hk] using this
  · rw [Memory.readAt_of_ge m h (by omega), Memory.readAt_of_ge m' h' (by omega)]

/-- The memory of the launch state is canonical. -/
theorem reset_mem_wf : State.reset.mem.wf = true := rfl

end Sys2Proof.Machine
end

