-- ==== Sys2Proof/Laws/Regs.lean ====
section
/-! SUPPORT. The register file: what a write of a register or a pair leaves in each register (10_state.md R30, R34). -/

namespace Sys2Proof.Machine

@[simp] theorem Regs.get_set_self (g : Regs) (r : Reg) (v : Byte) : (g.set r v).get r = v := by
  cases r <;> rfl

theorem Regs.get_set_of_ne (g : Regs) {r q : Reg} (h : q ≠ r) (v : Byte) : (g.set r v).get q = g.get q := by
  cases r <;> cases q <;> first | rfl | exact absurd rfl h

theorem Regs.get_set (g : Regs) (r q : Reg) (v : Byte) : (g.set r v).get q = if q = r then v else g.get q := by
  by_cases h : q = r
  · subst h; simp
  · simp [h, Regs.get_set_of_ne g h]

theorem joinBytes_getLsbD (a b : Byte) (i : Nat) :
    (joinBytes a b).getLsbD i = if i < 8 then b.getLsbD i else a.getLsbD (i - 8) :=
  BitVec.getLsbD_append

@[simp] theorem hiByte_joinBytes (a b : Byte) : hiByte (joinBytes a b) = a := by
  apply BitVec.eq_of_getLsbD_eq; intro i hi
  simp [hiByte, joinBytes_getLsbD, hi]

@[simp] theorem loByte_joinBytes (a b : Byte) : loByte (joinBytes a b) = b := by
  apply BitVec.eq_of_getLsbD_eq; intro i hi
  simp [loByte, joinBytes_getLsbD, hi]

@[simp] theorem joinBytes_hi_lo (v : Addr) : joinBytes (hiByte v) (loByte v) = v := by
  apply BitVec.eq_of_getLsbD_eq; intro i hi
  by_cases h : i < 8
  · simp [joinBytes_getLsbD, loByte, h]
  · have h8 : i - 8 < 8 := by omega
    have he : 8 + (i - 8) = i := by omega
    simp [joinBytes_getLsbD, hiByte, h, h8, he]

theorem joinBytes_toNat (a b : Byte) : (joinBytes a b).toNat = a.toNat * 256 + b.toNat := by
  have h : (joinBytes a b).toNat = a.toNat <<< 8 ||| b.toNat := BitVec.toNat_append a b
  rw [h, ← Nat.shiftLeft_add_eq_or_of_lt b.isLt, Nat.shiftLeft_eq]

theorem joinBytes_inj {a b c d : Byte} (h : joinBytes a b = joinBytes c d) : a = c ∧ b = d :=
  ⟨by rw [← hiByte_joinBytes a b, h, hiByte_joinBytes], by rw [← loByte_joinBytes a b, h, loByte_joinBytes]⟩

/-- The sum of two halves' updates: what a write of a pair leaves in each register. -/
theorem Regs.get_setPair (g : Regs) (p : Pair) (v : Addr) (q : Reg) :
    (g.setPair p v).get q = if q = pairHigh p then hiByte v else if q = pairLow p then loByte v else g.get q := by
  cases p <;> cases q <;> rfl

@[simp] theorem Regs.getPair_setPair_self (g : Regs) (p : Pair) (v : Addr) : (g.setPair p v).getPair p = v := by
  cases p <;> simp [Regs.getPair, Regs.get_setPair, pairHigh, pairLow]

theorem Regs.getPair_setPair_of_ne (g : Regs) {p q : Pair} (h : q ≠ p) (v : Addr) :
    (g.setPair p v).getPair q = g.getPair q := by
  cases p <;> cases q <;> first | rfl | exact absurd rfl h

/-- A register outside a pair is not one of its halves. -/
theorem pair_halves_of_not_holds {p : Pair} {r : Reg} (h : p.holds r = false) : r ≠ pairHigh p ∧ r ≠ pairLow p := by
  cases p <;> cases r <;> simp_all [Pair.holds, pairHigh, pairLow]

theorem Regs.get_setPair_of_not_holds (g : Regs) {p : Pair} {r : Reg} (h : p.holds r = false) (v : Addr) :
    (g.setPair p v).get r = g.get r := by
  have := pair_halves_of_not_holds h
  simp [Regs.get_setPair, this]

/-- Two register files with the same eight values are the same. -/
theorem Regs.ext_get {g k : Regs} (h : ∀ r, g.get r = k.get r) : g = k := by
  have h0 := h .xh; have h1 := h .xl; have h2 := h .yh; have h3 := h .yl
  have h4 := h .h; have h5 := h .l; have h6 := h .acc; have h7 := h .sp
  cases g; cases k; simp_all [Regs.get]

end Sys2Proof.Machine
end

