-- ==== Sys2Proof/Laws/Ops.lean ====
section
/-! SUPPORT. One lemma per shared operation that says all it can do; later proofs cite these and unfold nothing. -/

namespace Sys2Proof.Machine

/-- The fault of a write that is not admitted. -/
def writeFault (k : CellKind) (a : Addr) : Fault :=
  match k with
  | .rom => .stuckRomWrite a
  | .ram => .stuckAbsent a
  | .absent => .stuckAbsent a
  | .device => .stuckAbsent a

/-- The fault of a fetch that is not admitted. -/
def fetchFault (k : CellKind) (a : Addr) : Fault :=
  match k with
  | .device => .stuckDeviceFetch a
  | .ram => .stuckAbsent a
  | .rom => .stuckAbsent a
  | .absent => .stuckAbsent a

theorem memRead_eq (a : Addr) (s : State) :
    memRead a s = if readAdmitted (s.kindAt a) then .ok (s.readValue a, s.afterRead a) else .error (.stuckAbsent a) := rfl

theorem memWrite_eq (a : Addr) (v : Byte) (s : State) :
    memWrite a v s =
      if writeAdmitted (s.kindAt a) then .ok (s.afterWrite a v) else .error (writeFault (s.kindAt a) a) := by
  unfold memWrite
  cases s.kindAt a <;> rfl

theorem fetchByte_eq (a : Addr) (s : State) :
    fetchByte a s =
      if fetchAdmitted (s.kindAt a) then .ok (s.mem.read a) else .error (fetchFault (s.kindAt a) a) := by
  unfold fetchByte
  cases s.kindAt a <;> rfl

/-- A fetch that is admitted is admitted as a data read. -/
theorem readAdmitted_of_fetchAdmitted {k : CellKind} (h : fetchAdmitted k = true) : readAdmitted k = true := by
  cases k <;> simp_all [fetchAdmitted, readAdmitted]

/-- The operand of an instruction with one: what is read, and what reading leaves. -/
theorem operandByte_eq (src : Source) (s : State) :
    operandByte src s =
      if s.sourceAdmitted src then .ok (s.sourceValue src, s.afterSource src)
      else .error (.stuckAbsent ((sourceReads s src).headD 0)) := by
  cases src with
  | mem p => exact memRead_eq (effAddr p s) s
  | imm nn => rfl
  | reg r => rfl

theorem push8_eq (v : Byte) (s : State) :
    push8 v s =
      if writeAdmitted (s.kindAt (s.stackAddr s.regs.sp)) then
        .ok ((s.afterWrite (s.stackAddr s.regs.sp) v).setReg .sp (s.regs.sp + 1#8))
      else .error (writeFault (s.kindAt (s.stackAddr s.regs.sp)) (s.stackAddr s.regs.sp)) := by
  unfold push8
  rw [memWrite_eq]
  by_cases h : writeAdmitted (s.kindAt (s.stackAddr s.regs.sp)) = true <;> simp [h]

theorem pop8_eq (s : State) :
    pop8 s =
      if readAdmitted (s.kindAt (s.stackAddr (s.regs.sp - 1#8))) then
        .ok (s.readValue (s.stackAddr (s.regs.sp - 1#8)),
          (s.afterRead (s.stackAddr (s.regs.sp - 1#8))).setReg .sp (s.regs.sp - 1#8))
      else .error (.stuckAbsent (s.stackAddr (s.regs.sp - 1#8))) := by
  unfold pop8
  rw [memRead_eq]
  by_cases h : readAdmitted (s.kindAt (s.stackAddr (s.regs.sp - 1#8))) = true <;> simp [h]

@[simp] theorem set_sp_sp (g : Regs) (v : Byte) : (g.set .sp v).sp = v := rfl

@[simp] theorem set_sp_set_sp (g : Regs) (v w : Byte) : (g.set .sp v).set .sp w = g.set .sp w := rfl

theorem sp_add_two (b : Byte) : b + 1#8 + 1#8 = b + 2#8 := by
  rw [BitVec.add_assoc]; rfl

theorem sp_sub_two (b : Byte) : b - 1#8 - 1#8 = b - 2#8 := by
  bv_omega

/-- Writing SP and then a cell is writing the cell and then SP. -/
theorem State.afterWrite_setReg (s : State) (a : Addr) (v : Byte) (r : Reg) (w : Byte) :
    (s.setReg r w).afterWrite a v = (s.afterWrite a v).setReg r w := by
  unfold State.afterWrite
  rw [State.setReg_kindAt]
  split <;> rfl

/-- Writing SP and then reading a cell is reading the cell and then writing SP. -/
theorem State.afterRead_setReg (s : State) (a : Addr) (r : Reg) (w : Byte) :
    (s.setReg r w).afterRead a = (s.afterRead a).setReg r w := by
  unfold State.afterRead
  rw [State.setReg_kindAt]
  split <;> rfl

theorem State.readValue_setReg (s : State) (a : Addr) (r : Reg) (w : Byte) :
    (s.setReg r w).readValue a = s.readValue a := by
  unfold State.readValue
  rw [State.setReg_kindAt]
  rfl

/-- The state after both bytes of a 16-bit value are pushed. -/
def State.pushed16 (s : State) (v : Addr) : State :=
  ((s.afterWrite (s.stackAddr s.regs.sp) (firstPushed s.cfg v)).afterWrite (s.stackAddr (s.regs.sp + 1#8))
    (secondPushed s.cfg v)).setReg .sp (s.regs.sp + 2#8)

theorem push16_eq (v : Addr) (s : State) :
    push16 v s =
      if writeAdmitted (s.kindAt (s.stackAddr s.regs.sp)) then
        if writeAdmitted (s.kindAt (s.stackAddr (s.regs.sp + 1#8))) then .ok (s.pushed16 v)
        else .error (writeFault (s.kindAt (s.stackAddr (s.regs.sp + 1#8))) (s.stackAddr (s.regs.sp + 1#8)))
      else .error (writeFault (s.kindAt (s.stackAddr s.regs.sp)) (s.stackAddr s.regs.sp)) := by
  unfold push16
  rw [push8_eq]
  by_cases h : writeAdmitted (s.kindAt (s.stackAddr s.regs.sp)) = true
  · simp only [h, if_true]
    rw [push8_eq]
    simp only [State.setReg_kindAt, State.afterWrite_kindAt, State.setReg_stackAddr, State.afterWrite_stackAddr,
      State.setReg_regs, State.afterWrite_regs, set_sp_sp]
    by_cases h2 : writeAdmitted (s.kindAt (s.stackAddr (s.regs.sp + 1#8))) = true
    · simp only [h2, if_true, State.pushed16, State.afterWrite_setReg, sp_add_two]
      rfl
    · rw [if_neg h2, if_neg h2]
  · rw [if_neg h, if_neg h]

/-- The 16-bit value a pop of two bytes returns. -/
def State.popped16 (s : State) : Addr :=
  fromPushed s.cfg ((s.afterRead (s.stackAddr (s.regs.sp - 1#8))).readValue (s.stackAddr (s.regs.sp - 2#8)))
    (s.readValue (s.stackAddr (s.regs.sp - 1#8)))

/-- The state after two bytes are popped. -/
def State.afterPop16 (s : State) : State :=
  ((s.afterRead (s.stackAddr (s.regs.sp - 1#8))).afterRead (s.stackAddr (s.regs.sp - 2#8))).setReg .sp (s.regs.sp - 2#8)

theorem pop16_eq (s : State) :
    pop16 s =
      if readAdmitted (s.kindAt (s.stackAddr (s.regs.sp - 1#8))) then
        if readAdmitted (s.kindAt (s.stackAddr (s.regs.sp - 2#8))) then .ok (s.popped16, s.afterPop16)
        else .error (.stuckAbsent (s.stackAddr (s.regs.sp - 2#8)))
      else .error (.stuckAbsent (s.stackAddr (s.regs.sp - 1#8))) := by
  unfold pop16
  rw [pop8_eq]
  by_cases h : readAdmitted (s.kindAt (s.stackAddr (s.regs.sp - 1#8))) = true
  · simp only [h, if_true]
    rw [pop8_eq]
    simp only [State.setReg_kindAt, State.afterRead_kindAt, State.setReg_stackAddr, State.afterRead_stackAddr,
      State.setReg_regs, State.afterRead_regs, set_sp_sp, sp_sub_two]
    by_cases h2 : readAdmitted (s.kindAt (s.stackAddr (s.regs.sp - 2#8))) = true
    · simp only [h2, if_true, State.popped16, State.afterPop16, State.afterRead_setReg, State.readValue_setReg]
      rfl
    · rw [if_neg h2, if_neg h2]
  · rw [if_neg h, if_neg h]

/-- The two orders of a 16-bit entry are inverse to each other (20_memory.md R79). -/
theorem fromPushed_pushed (c : Config) (v : Addr) : fromPushed c (firstPushed c v) (secondPushed c v) = v := by
  unfold fromPushed firstPushed secondPushed
  split <;> simp

/-! What a read sees after a write (R86). -/

theorem State.afterWrite_mem (s : State) (a : Addr) (v : Byte) :
    (s.afterWrite a v).mem = if s.kindAt a = .device then s.mem else s.mem.write a v := by
  unfold State.afterWrite
  cases s.kindAt a <;> rfl

theorem State.afterWrite_deviceLog (s : State) (a : Addr) (v : Byte) :
    (s.afterWrite a v).deviceLog = if s.kindAt a = .device then s.deviceLog ++ [(a.toNat, v)] else s.deviceLog := by
  unfold State.afterWrite
  cases s.kindAt a <;> rfl

theorem State.afterWrite_read_of_ne (s : State) {a b : Addr} (v : Byte) (h : b ≠ a) :
    (s.afterWrite a v).mem.read b = s.mem.read b := by
  rw [State.afterWrite_mem]
  split
  · rfl
  · exact Memory.read_write_of_ne s.mem v h

theorem State.afterWrite_wf (s : State) (a : Addr) (v : Byte) (h : s.mem.wf = true) : (s.afterWrite a v).mem.wf = true := by
  rw [State.afterWrite_mem]
  split
  · exact h
  · exact Memory.wf_write s.mem h a v

theorem State.afterSource_eq (s : State) (src : Source) :
    s.afterSource src = { s with deviceReads := (s.afterSource src).deviceReads } := by
  cases src with
  | mem p =>
    simp only [State.afterSource, State.afterRead]
    split <;> rfl
  | imm nn => rfl
  | reg r => rfl

end Sys2Proof.Machine
end

