-- ==== Sys2Proof/Laws/Exec.lean ====
section
/-! SUPPORT. The 280 arms of `exec` seen as the 18 shapes of `Form`: a proof about every instruction starts with `exec_eq` and
splits the form, not the instruction. -/

namespace Sys2Proof.Machine

/-- The effect of a machine-control instruction. -/
def controlExec (k : Control) (s : State) : Result :=
  match k with
  | .nin => execNin s
  | .clc => execClc s
  | .cln => execCln s
  | .clz => execClz s
  | .cli => execCli s
  | .clf => execClf s
  | .ext => execExt s
  | .hlt => execHlt s

/-- The effect of a form, the latch aside. -/
def formExec (f : Form) (s : State) : Result :=
  match f with
  | .control k => controlExec k s
  | .jmp k b1 b2 => jumpIf k b1 b2 s
  | .jsr k b1 b2 => callIf k b1 b2 s
  | .rtn k => returnIf k s
  | .psh r => pushReg r s
  | .pop r => popReg r s
  | .incPair p => incrementPair p s
  | .decPair p => decrementPair p s
  | .accOp o => accOp o s
  | .alu op src => aluOp op src s
  | .ld r src => loadOp r src s
  | .str r p => storeOp r p s
  | .mov a b => moveReg a b s
  | .movPair a b => movePair a b s
  | .pshPair p => pushPair p s
  | .popPair p => popPair p s
  | .pshPc => pushPc s
  | .popPc => popPc s

/-- An extended instruction clears the latch when it finishes, a base one leaves it to its meaning (30_encoding.md R108). -/
def finishIn (m : Mode) (r : Result) : Result :=
  match m with
  | .base => r
  | .ext => endExtended r

theorem exec_eq (i : Instr) (s : State) : exec i s = finishIn i.mode (formExec i.form s) := by
  cases i <;> rfl

/-- Only listed forms are the form of an instruction (30_encoding.md R115, R116). -/
theorem form_wf (i : Instr) : i.form.wf = true := by
  cases i <;> rfl

/-- The effect of machine control as a state. -/
def controlNext (k : Control) (s : State) : State :=
  match k with
  | .nin => s.advance 1
  | .clc => (s.setFlags { s.flags with c := false }).advance 1
  | .cln => (s.setFlags { s.flags with n := false }).advance 1
  | .clz => (s.setFlags { s.flags with z := false }).advance 1
  | .cli => (s.setFlags { s.flags with i := false }).advance 1
  | .clf => (s.setFlags { c := false, n := false, z := false, i := false }).advance 1
  | .ext => (s.setExt true).advance 1
  | .hlt => (s.setRun .halted).advance 1

/-- The next state of a form whose data accesses are all admitted, the latch aside. -/
def formNext (f : Form) (s : State) : State :=
  match f with
  | .control k => controlNext k s
  | .jmp k b1 b2 => if condHolds k s.flags then s.setPc (absOperand s.cfg b1 b2) else s.advance 3
  | .jsr k b1 b2 =>
    if condHolds k s.flags then (s.pushed16 (s.pc + 3#16)).setPc (absOperand s.cfg b1 b2) else s.advance 3
  | .rtn k => if condHolds k s.flags then s.afterPop16.setPc s.popped16 else s.advance 1
  | .psh r => ((s.afterWrite (s.stackAddr s.regs.sp) (s.regs.get r)).setReg .sp (s.regs.sp + 1#8)).advance 1
  | .pop r =>
    (((s.afterRead (s.stackAddr (s.regs.sp - 1#8))).setReg .sp (s.regs.sp - 1#8)).setReg r
      (s.readValue (s.stackAddr (s.regs.sp - 1#8)))).advance 1
  | .incPair p => (s.setPair p (s.regs.getPair p + 1#16)).advance 1
  | .decPair p => (s.setPair p (s.regs.getPair p - 1#16)).advance 1
  | .accOp o => (accWrite o s).advance 1
  | .alu op src => (aluWrite op (s.sourceValue src) (s.afterSource src)).advance (sourceLength src)
  | .ld r src => ((s.afterSource src).setReg r (s.sourceValue src)).advance (sourceLength src)
  | .str r p => (s.afterWrite (effAddr p s) (s.regs.get r)).advance (placeLength p)
  | .mov a b => (s.setReg b (s.regs.get a)).advance 1
  | .movPair a b => (s.setPair b (s.regs.getPair a)).advance 1
  | .pshPair p => (s.pushed16 (s.regs.getPair p)).advance 1
  | .popPair p => (s.afterPop16.setPair p s.popped16).advance 1
  | .pshPc => (s.pushed16 (s.pc + 1#16)).advance 1
  | .popPc => s.afterPop16.setPc s.popped16

/-- All a form can do: its next state exactly when its data accesses are admitted, else a fault; never a refusal. -/
theorem formExec_cases (f : Form) (s : State) :
    (dataAdmitted f s = true ∧ formExec f s = .next (formNext f s)) ∨
      (dataAdmitted f s = false ∧ ∃ e, formExec f s = .fault e) := by
  cases f with
  | control k => exact .inl ⟨rfl, by cases k <;> rfl⟩
  | jmp k b1 b2 =>
    exact .inl ⟨rfl, rfl⟩
  | jsr k b1 b2 =>
    simp only [formExec, formNext, callIf, dataAdmitted, dataReads, dataWrites]
    by_cases hc : condHolds k s.flags = true
    · rw [if_pos hc, if_pos hc, if_pos hc, push16_eq]
      cases h1 : writeAdmitted (s.kindAt (s.stackAddr s.regs.sp)) <;>
        cases h2 : writeAdmitted (s.kindAt (s.stackAddr (s.regs.sp + 1#8))) <;> simp [h1, h2]
    · simp [hc]
  | rtn k =>
    simp only [formExec, formNext, returnIf, dataAdmitted, dataReads, dataWrites]
    by_cases hc : condHolds k s.flags = true
    · rw [if_pos hc, if_pos hc, if_pos hc, pop16_eq]
      cases h1 : readAdmitted (s.kindAt (s.stackAddr (s.regs.sp - 1#8))) <;>
        cases h2 : readAdmitted (s.kindAt (s.stackAddr (s.regs.sp - 2#8))) <;> simp [h1, h2]
    · simp [hc]
  | psh r =>
    simp only [formExec, formNext, pushReg, push8_eq, dataAdmitted, dataReads, dataWrites]
    cases h : writeAdmitted (s.kindAt (s.stackAddr s.regs.sp)) <;> simp [h]
  | pop r =>
    simp only [formExec, formNext, popReg, pop8_eq, dataAdmitted, dataReads, dataWrites]
    cases h : readAdmitted (s.kindAt (s.stackAddr (s.regs.sp - 1#8))) <;> simp [h]
  | incPair p => exact .inl ⟨rfl, rfl⟩
  | decPair p => exact .inl ⟨rfl, rfl⟩
  | accOp o => exact .inl ⟨rfl, rfl⟩
  | alu op src =>
    have e : dataAdmitted (.alu op src) s = s.sourceAdmitted src := by
      cases src <;> simp [dataAdmitted, dataReads, dataWrites, sourceReads, State.sourceAdmitted]
    simp only [e, formExec, formNext, aluOp, operandByte_eq]
    cases h : s.sourceAdmitted src <;> simp
  | ld r src =>
    have e : dataAdmitted (.ld r src) s = s.sourceAdmitted src := by
      cases src <;> simp [dataAdmitted, dataReads, dataWrites, sourceReads, State.sourceAdmitted]
    simp only [e, formExec, formNext, loadOp, operandByte_eq]
    cases h : s.sourceAdmitted src <;> simp
  | str r p =>
    simp only [formExec, formNext, storeOp, memWrite_eq, dataAdmitted, dataReads, dataWrites]
    cases h : writeAdmitted (s.kindAt (effAddr p s)) <;> simp [h]
  | mov a b => exact .inl ⟨rfl, rfl⟩
  | movPair a b => exact .inl ⟨rfl, rfl⟩
  | pshPair p =>
    simp only [formExec, formNext, pushPair, push16_eq, dataAdmitted, dataReads, dataWrites]
    cases h1 : writeAdmitted (s.kindAt (s.stackAddr s.regs.sp)) <;>
      cases h2 : writeAdmitted (s.kindAt (s.stackAddr (s.regs.sp + 1#8))) <;> simp [h1, h2]
  | popPair p =>
    simp only [formExec, formNext, popPair, pop16_eq, dataAdmitted, dataReads, dataWrites]
    cases h1 : readAdmitted (s.kindAt (s.stackAddr (s.regs.sp - 1#8))) <;>
      cases h2 : readAdmitted (s.kindAt (s.stackAddr (s.regs.sp - 2#8))) <;> simp [h1, h2]
  | pshPc =>
    simp only [formExec, formNext, pushPc, push16_eq, dataAdmitted, dataReads, dataWrites]
    cases h1 : writeAdmitted (s.kindAt (s.stackAddr s.regs.sp)) <;>
      cases h2 : writeAdmitted (s.kindAt (s.stackAddr (s.regs.sp + 1#8))) <;> simp [h1, h2]
  | popPc =>
    simp only [formExec, formNext, popPc, pop16_eq, dataAdmitted, dataReads, dataWrites]
    cases h1 : readAdmitted (s.kindAt (s.stackAddr (s.regs.sp - 1#8))) <;>
      cases h2 : readAdmitted (s.kindAt (s.stackAddr (s.regs.sp - 2#8))) <;> simp [h1, h2]

/-- The next state of an instruction, read from its form: the latch clears after an extended one. -/
def instrNext (i : Instr) (s : State) : State :=
  match i.mode with
  | .base => formNext i.form s
  | .ext => (formNext i.form s).setExt false

@[simp] theorem instrNext_regs (i : Instr) (s : State) : (instrNext i s).regs = (formNext i.form s).regs := by
  unfold instrNext; cases i.mode <;> rfl

@[simp] theorem instrNext_pc (i : Instr) (s : State) : (instrNext i s).pc = (formNext i.form s).pc := by
  unfold instrNext; cases i.mode <;> rfl

@[simp] theorem instrNext_flags (i : Instr) (s : State) : (instrNext i s).flags = (formNext i.form s).flags := by
  unfold instrNext; cases i.mode <;> rfl

@[simp] theorem instrNext_run (i : Instr) (s : State) : (instrNext i s).run = (formNext i.form s).run := by
  unfold instrNext; cases i.mode <;> rfl

@[simp] theorem instrNext_mem (i : Instr) (s : State) : (instrNext i s).mem = (formNext i.form s).mem := by
  unfold instrNext; cases i.mode <;> rfl

@[simp] theorem instrNext_cfg (i : Instr) (s : State) : (instrNext i s).cfg = (formNext i.form s).cfg := by
  unfold instrNext; cases i.mode <;> rfl

@[simp] theorem instrNext_iDraws (i : Instr) (s : State) : (instrNext i s).iDraws = (formNext i.form s).iDraws := by
  unfold instrNext; cases i.mode <;> rfl

@[simp] theorem instrNext_iCount (i : Instr) (s : State) : (instrNext i s).iCount = (formNext i.form s).iCount := by
  unfold instrNext; cases i.mode <;> rfl

@[simp] theorem instrNext_deviceReads (i : Instr) (s : State) : (instrNext i s).deviceReads = (formNext i.form s).deviceReads := by
  unfold instrNext; cases i.mode <;> rfl

@[simp] theorem instrNext_deviceLog (i : Instr) (s : State) : (instrNext i s).deviceLog = (formNext i.form s).deviceLog := by
  unfold instrNext; cases i.mode <;> rfl

theorem instrNext_ext (i : Instr) (s : State) :
    (instrNext i s).ext = if i.mode = .ext then false else (formNext i.form s).ext := by
  unfold instrNext; cases i.mode <;> rfl

/-- Inversion of `exec`: a next state is `instrNext`, and every data access was admitted. -/
theorem exec_next_inv {i : Instr} {s t : State} (h : exec i s = .next t) :
    dataAdmitted i.form s = true ∧ t = instrNext i s := by
  rw [exec_eq] at h
  unfold instrNext
  rcases formExec_cases i.form s with ⟨ha, hn⟩ | ⟨_, e, hf⟩
  · rw [hn] at h
    cases hm : i.mode <;> rw [hm] at h <;> exact ⟨ha, (Host.Outcome.next.inj h).symm⟩
  · rw [hf] at h
    cases hm : i.mode <;> rw [hm] at h <;> exact nomatch h

/-- An instruction whose data accesses are all admitted has its next state. -/
theorem exec_of_admitted {i : Instr} {s : State} (h : dataAdmitted i.form s = true) : exec i s = .next (instrNext i s) := by
  rw [exec_eq]
  unfold instrNext
  rcases formExec_cases i.form s with ⟨_, hn⟩ | ⟨hf, _⟩
  · rw [hn]
    cases i.mode <;> rfl
  · rw [h] at hf
    exact nomatch hf

end Sys2Proof.Machine
end

