-- ==== Sys2Proof/Laws/PerInstr.lean ====
section
/-! SUPPORT. The family `RoundTrip`: each instruction decodes from its own encoding, in its mode, whatever follows it. Each lemma
writes out the instruction's opcode byte as the opcode table has it. -/

namespace Sys2Proof.Laws

/-- The decoder reads the instruction back from its encoding and leaves the bytes after it. -/
def RoundTrip.Statement (i : Instr) : Prop :=
  ∀ rest : List Byte, decodeBytes i.mode (encode i ++ rest) = .ok (i, rest)

theorem RoundTrip.nin : RoundTrip.Statement .nin := fun rest =>
  show decodeBytes .base (0x00#8 :: rest) = .ok (.nin, rest) from rfl

theorem RoundTrip.clc : RoundTrip.Statement .clc := fun rest =>
  show decodeBytes .base (0x08#8 :: rest) = .ok (.clc, rest) from rfl

theorem RoundTrip.cln : RoundTrip.Statement .cln := fun rest =>
  show decodeBytes .base (0x10#8 :: rest) = .ok (.cln, rest) from rfl

theorem RoundTrip.clz : RoundTrip.Statement .clz := fun rest =>
  show decodeBytes .base (0x18#8 :: rest) = .ok (.clz, rest) from rfl

theorem RoundTrip.cli : RoundTrip.Statement .cli := fun rest =>
  show decodeBytes .base (0x20#8 :: rest) = .ok (.cli, rest) from rfl

theorem RoundTrip.clf : RoundTrip.Statement .clf := fun rest =>
  show decodeBytes .base (0x28#8 :: rest) = .ok (.clf, rest) from rfl

theorem RoundTrip.ext : RoundTrip.Statement .ext := fun rest =>
  show decodeBytes .base (0x30#8 :: rest) = .ok (.ext, rest) from rfl

theorem RoundTrip.hlt : RoundTrip.Statement .hlt := fun rest =>
  show decodeBytes .base (0x38#8 :: rest) = .ok (.hlt, rest) from rfl

theorem RoundTrip.jmpU (b1 b2 : Byte) : RoundTrip.Statement (.jmpU b1 b2) := fun rest =>
  show decodeBytes .base (0x01#8 :: b1 :: b2 :: rest) = .ok ((.jmpU b1 b2), rest) from rfl

theorem RoundTrip.jmpC (b1 b2 : Byte) : RoundTrip.Statement (.jmpC b1 b2) := fun rest =>
  show decodeBytes .base (0x09#8 :: b1 :: b2 :: rest) = .ok ((.jmpC b1 b2), rest) from rfl

theorem RoundTrip.jmpN (b1 b2 : Byte) : RoundTrip.Statement (.jmpN b1 b2) := fun rest =>
  show decodeBytes .base (0x11#8 :: b1 :: b2 :: rest) = .ok ((.jmpN b1 b2), rest) from rfl

theorem RoundTrip.jmpZ (b1 b2 : Byte) : RoundTrip.Statement (.jmpZ b1 b2) := fun rest =>
  show decodeBytes .base (0x19#8 :: b1 :: b2 :: rest) = .ok ((.jmpZ b1 b2), rest) from rfl

theorem RoundTrip.jmpNc (b1 b2 : Byte) : RoundTrip.Statement (.jmpNc b1 b2) := fun rest =>
  show decodeBytes .base (0x21#8 :: b1 :: b2 :: rest) = .ok ((.jmpNc b1 b2), rest) from rfl

theorem RoundTrip.jmpNn (b1 b2 : Byte) : RoundTrip.Statement (.jmpNn b1 b2) := fun rest =>
  show decodeBytes .base (0x29#8 :: b1 :: b2 :: rest) = .ok ((.jmpNn b1 b2), rest) from rfl

theorem RoundTrip.jmpNz (b1 b2 : Byte) : RoundTrip.Statement (.jmpNz b1 b2) := fun rest =>
  show decodeBytes .base (0x31#8 :: b1 :: b2 :: rest) = .ok ((.jmpNz b1 b2), rest) from rfl

theorem RoundTrip.jmpI (b1 b2 : Byte) : RoundTrip.Statement (.jmpI b1 b2) := fun rest =>
  show decodeBytes .base (0x39#8 :: b1 :: b2 :: rest) = .ok ((.jmpI b1 b2), rest) from rfl

theorem RoundTrip.jsrU (b1 b2 : Byte) : RoundTrip.Statement (.jsrU b1 b2) := fun rest =>
  show decodeBytes .base (0x02#8 :: b1 :: b2 :: rest) = .ok ((.jsrU b1 b2), rest) from rfl

theorem RoundTrip.jsrC (b1 b2 : Byte) : RoundTrip.Statement (.jsrC b1 b2) := fun rest =>
  show decodeBytes .base (0x0A#8 :: b1 :: b2 :: rest) = .ok ((.jsrC b1 b2), rest) from rfl

theorem RoundTrip.jsrN (b1 b2 : Byte) : RoundTrip.Statement (.jsrN b1 b2) := fun rest =>
  show decodeBytes .base (0x12#8 :: b1 :: b2 :: rest) = .ok ((.jsrN b1 b2), rest) from rfl

theorem RoundTrip.jsrZ (b1 b2 : Byte) : RoundTrip.Statement (.jsrZ b1 b2) := fun rest =>
  show decodeBytes .base (0x1A#8 :: b1 :: b2 :: rest) = .ok ((.jsrZ b1 b2), rest) from rfl

theorem RoundTrip.jsrNc (b1 b2 : Byte) : RoundTrip.Statement (.jsrNc b1 b2) := fun rest =>
  show decodeBytes .base (0x22#8 :: b1 :: b2 :: rest) = .ok ((.jsrNc b1 b2), rest) from rfl

theorem RoundTrip.jsrNn (b1 b2 : Byte) : RoundTrip.Statement (.jsrNn b1 b2) := fun rest =>
  show decodeBytes .base (0x2A#8 :: b1 :: b2 :: rest) = .ok ((.jsrNn b1 b2), rest) from rfl

theorem RoundTrip.jsrNz (b1 b2 : Byte) : RoundTrip.Statement (.jsrNz b1 b2) := fun rest =>
  show decodeBytes .base (0x32#8 :: b1 :: b2 :: rest) = .ok ((.jsrNz b1 b2), rest) from rfl

theorem RoundTrip.jsrI (b1 b2 : Byte) : RoundTrip.Statement (.jsrI b1 b2) := fun rest =>
  show decodeBytes .base (0x3A#8 :: b1 :: b2 :: rest) = .ok ((.jsrI b1 b2), rest) from rfl

theorem RoundTrip.rtnU : RoundTrip.Statement .rtnU := fun rest =>
  show decodeBytes .base (0x03#8 :: rest) = .ok (.rtnU, rest) from rfl

theorem RoundTrip.rtnC : RoundTrip.Statement .rtnC := fun rest =>
  show decodeBytes .base (0x0B#8 :: rest) = .ok (.rtnC, rest) from rfl

theorem RoundTrip.rtnN : RoundTrip.Statement .rtnN := fun rest =>
  show decodeBytes .base (0x13#8 :: rest) = .ok (.rtnN, rest) from rfl

theorem RoundTrip.rtnZ : RoundTrip.Statement .rtnZ := fun rest =>
  show decodeBytes .base (0x1B#8 :: rest) = .ok (.rtnZ, rest) from rfl

theorem RoundTrip.rtnNc : RoundTrip.Statement .rtnNc := fun rest =>
  show decodeBytes .base (0x23#8 :: rest) = .ok (.rtnNc, rest) from rfl

theorem RoundTrip.rtnNn : RoundTrip.Statement .rtnNn := fun rest =>
  show decodeBytes .base (0x2B#8 :: rest) = .ok (.rtnNn, rest) from rfl

theorem RoundTrip.rtnNz : RoundTrip.Statement .rtnNz := fun rest =>
  show decodeBytes .base (0x33#8 :: rest) = .ok (.rtnNz, rest) from rfl

theorem RoundTrip.pshXh : RoundTrip.Statement .pshXh := fun rest =>
  show decodeBytes .base (0x04#8 :: rest) = .ok (.pshXh, rest) from rfl

theorem RoundTrip.pshXl : RoundTrip.Statement .pshXl := fun rest =>
  show decodeBytes .base (0x0C#8 :: rest) = .ok (.pshXl, rest) from rfl

theorem RoundTrip.pshYh : RoundTrip.Statement .pshYh := fun rest =>
  show decodeBytes .base (0x14#8 :: rest) = .ok (.pshYh, rest) from rfl

theorem RoundTrip.pshYl : RoundTrip.Statement .pshYl := fun rest =>
  show decodeBytes .base (0x1C#8 :: rest) = .ok (.pshYl, rest) from rfl

theorem RoundTrip.pshH : RoundTrip.Statement .pshH := fun rest =>
  show decodeBytes .base (0x24#8 :: rest) = .ok (.pshH, rest) from rfl

theorem RoundTrip.pshL : RoundTrip.Statement .pshL := fun rest =>
  show decodeBytes .base (0x2C#8 :: rest) = .ok (.pshL, rest) from rfl

theorem RoundTrip.pshAcc : RoundTrip.Statement .pshAcc := fun rest =>
  show decodeBytes .base (0x34#8 :: rest) = .ok (.pshAcc, rest) from rfl

theorem RoundTrip.popXh : RoundTrip.Statement .popXh := fun rest =>
  show decodeBytes .base (0x05#8 :: rest) = .ok (.popXh, rest) from rfl

theorem RoundTrip.popXl : RoundTrip.Statement .popXl := fun rest =>
  show decodeBytes .base (0x0D#8 :: rest) = .ok (.popXl, rest) from rfl

theorem RoundTrip.popYh : RoundTrip.Statement .popYh := fun rest =>
  show decodeBytes .base (0x15#8 :: rest) = .ok (.popYh, rest) from rfl

theorem RoundTrip.popYl : RoundTrip.Statement .popYl := fun rest =>
  show decodeBytes .base (0x1D#8 :: rest) = .ok (.popYl, rest) from rfl

theorem RoundTrip.popH : RoundTrip.Statement .popH := fun rest =>
  show decodeBytes .base (0x25#8 :: rest) = .ok (.popH, rest) from rfl

theorem RoundTrip.popL : RoundTrip.Statement .popL := fun rest =>
  show decodeBytes .base (0x2D#8 :: rest) = .ok (.popL, rest) from rfl

theorem RoundTrip.popAcc : RoundTrip.Statement .popAcc := fun rest =>
  show decodeBytes .base (0x35#8 :: rest) = .ok (.popAcc, rest) from rfl

theorem RoundTrip.incXhl : RoundTrip.Statement .incXhl := fun rest =>
  show decodeBytes .base (0x06#8 :: rest) = .ok (.incXhl, rest) from rfl

theorem RoundTrip.incYhl : RoundTrip.Statement .incYhl := fun rest =>
  show decodeBytes .base (0x16#8 :: rest) = .ok (.incYhl, rest) from rfl

theorem RoundTrip.incHl : RoundTrip.Statement .incHl := fun rest =>
  show decodeBytes .base (0x26#8 :: rest) = .ok (.incHl, rest) from rfl

theorem RoundTrip.decXhl : RoundTrip.Statement .decXhl := fun rest =>
  show decodeBytes .base (0x0E#8 :: rest) = .ok (.decXhl, rest) from rfl

theorem RoundTrip.decYhl : RoundTrip.Statement .decYhl := fun rest =>
  show decodeBytes .base (0x1E#8 :: rest) = .ok (.decYhl, rest) from rfl

theorem RoundTrip.decHl : RoundTrip.Statement .decHl := fun rest =>
  show decodeBytes .base (0x2E#8 :: rest) = .ok (.decHl, rest) from rfl

theorem RoundTrip.incAcc : RoundTrip.Statement .incAcc := fun rest =>
  show decodeBytes .base (0x07#8 :: rest) = .ok (.incAcc, rest) from rfl

theorem RoundTrip.decAcc : RoundTrip.Statement .decAcc := fun rest =>
  show decodeBytes .base (0x0F#8 :: rest) = .ok (.decAcc, rest) from rfl

theorem RoundTrip.rorAcc : RoundTrip.Statement .rorAcc := fun rest =>
  show decodeBytes .base (0x17#8 :: rest) = .ok (.rorAcc, rest) from rfl

theorem RoundTrip.rolAcc : RoundTrip.Statement .rolAcc := fun rest =>
  show decodeBytes .base (0x1F#8 :: rest) = .ok (.rolAcc, rest) from rfl

theorem RoundTrip.rshAcc : RoundTrip.Statement .rshAcc := fun rest =>
  show decodeBytes .base (0x27#8 :: rest) = .ok (.rshAcc, rest) from rfl

theorem RoundTrip.lshAcc : RoundTrip.Statement .lshAcc := fun rest =>
  show decodeBytes .base (0x2F#8 :: rest) = .ok (.lshAcc, rest) from rfl

theorem RoundTrip.notAcc : RoundTrip.Statement .notAcc := fun rest =>
  show decodeBytes .base (0x37#8 :: rest) = .ok (.notAcc, rest) from rfl

theorem RoundTrip.addAbs (b1 b2 : Byte) : RoundTrip.Statement (.addAbs b1 b2) := fun rest =>
  show decodeBytes .base (0x40#8 :: b1 :: b2 :: rest) = .ok ((.addAbs b1 b2), rest) from rfl

theorem RoundTrip.addZp (zz : Byte) : RoundTrip.Statement (.addZp zz) := fun rest =>
  show decodeBytes .base (0x41#8 :: zz :: rest) = .ok ((.addZp zz), rest) from rfl

theorem RoundTrip.addHl : RoundTrip.Statement .addHl := fun rest =>
  show decodeBytes .base (0x42#8 :: rest) = .ok (.addHl, rest) from rfl

theorem RoundTrip.addImm (nn : Byte) : RoundTrip.Statement (.addImm nn) := fun rest =>
  show decodeBytes .base (0x43#8 :: nn :: rest) = .ok ((.addImm nn), rest) from rfl

theorem RoundTrip.addXh : RoundTrip.Statement .addXh := fun rest =>
  show decodeBytes .base (0x44#8 :: rest) = .ok (.addXh, rest) from rfl

theorem RoundTrip.addXl : RoundTrip.Statement .addXl := fun rest =>
  show decodeBytes .base (0x45#8 :: rest) = .ok (.addXl, rest) from rfl

theorem RoundTrip.addYh : RoundTrip.Statement .addYh := fun rest =>
  show decodeBytes .base (0x46#8 :: rest) = .ok (.addYh, rest) from rfl

theorem RoundTrip.addYl : RoundTrip.Statement .addYl := fun rest =>
  show decodeBytes .base (0x47#8 :: rest) = .ok (.addYl, rest) from rfl

theorem RoundTrip.adcAbs (b1 b2 : Byte) : RoundTrip.Statement (.adcAbs b1 b2) := fun rest =>
  show decodeBytes .base (0x48#8 :: b1 :: b2 :: rest) = .ok ((.adcAbs b1 b2), rest) from rfl

theorem RoundTrip.adcZp (zz : Byte) : RoundTrip.Statement (.adcZp zz) := fun rest =>
  show decodeBytes .base (0x49#8 :: zz :: rest) = .ok ((.adcZp zz), rest) from rfl

theorem RoundTrip.adcHl : RoundTrip.Statement .adcHl := fun rest =>
  show decodeBytes .base (0x4A#8 :: rest) = .ok (.adcHl, rest) from rfl

theorem RoundTrip.adcImm (nn : Byte) : RoundTrip.Statement (.adcImm nn) := fun rest =>
  show decodeBytes .base (0x4B#8 :: nn :: rest) = .ok ((.adcImm nn), rest) from rfl

theorem RoundTrip.adcXh : RoundTrip.Statement .adcXh := fun rest =>
  show decodeBytes .base (0x4C#8 :: rest) = .ok (.adcXh, rest) from rfl

theorem RoundTrip.adcXl : RoundTrip.Statement .adcXl := fun rest =>
  show decodeBytes .base (0x4D#8 :: rest) = .ok (.adcXl, rest) from rfl

theorem RoundTrip.adcYh : RoundTrip.Statement .adcYh := fun rest =>
  show decodeBytes .base (0x4E#8 :: rest) = .ok (.adcYh, rest) from rfl

theorem RoundTrip.adcYl : RoundTrip.Statement .adcYl := fun rest =>
  show decodeBytes .base (0x4F#8 :: rest) = .ok (.adcYl, rest) from rfl

theorem RoundTrip.subAbs (b1 b2 : Byte) : RoundTrip.Statement (.subAbs b1 b2) := fun rest =>
  show decodeBytes .base (0x50#8 :: b1 :: b2 :: rest) = .ok ((.subAbs b1 b2), rest) from rfl

theorem RoundTrip.subZp (zz : Byte) : RoundTrip.Statement (.subZp zz) := fun rest =>
  show decodeBytes .base (0x51#8 :: zz :: rest) = .ok ((.subZp zz), rest) from rfl

theorem RoundTrip.subHl : RoundTrip.Statement .subHl := fun rest =>
  show decodeBytes .base (0x52#8 :: rest) = .ok (.subHl, rest) from rfl

theorem RoundTrip.subImm (nn : Byte) : RoundTrip.Statement (.subImm nn) := fun rest =>
  show decodeBytes .base (0x53#8 :: nn :: rest) = .ok ((.subImm nn), rest) from rfl

theorem RoundTrip.subXh : RoundTrip.Statement .subXh := fun rest =>
  show decodeBytes .base (0x54#8 :: rest) = .ok (.subXh, rest) from rfl

theorem RoundTrip.subXl : RoundTrip.Statement .subXl := fun rest =>
  show decodeBytes .base (0x55#8 :: rest) = .ok (.subXl, rest) from rfl

theorem RoundTrip.subYh : RoundTrip.Statement .subYh := fun rest =>
  show decodeBytes .base (0x56#8 :: rest) = .ok (.subYh, rest) from rfl

theorem RoundTrip.subYl : RoundTrip.Statement .subYl := fun rest =>
  show decodeBytes .base (0x57#8 :: rest) = .ok (.subYl, rest) from rfl

theorem RoundTrip.sbbAbs (b1 b2 : Byte) : RoundTrip.Statement (.sbbAbs b1 b2) := fun rest =>
  show decodeBytes .base (0x58#8 :: b1 :: b2 :: rest) = .ok ((.sbbAbs b1 b2), rest) from rfl

theorem RoundTrip.sbbZp (zz : Byte) : RoundTrip.Statement (.sbbZp zz) := fun rest =>
  show decodeBytes .base (0x59#8 :: zz :: rest) = .ok ((.sbbZp zz), rest) from rfl

theorem RoundTrip.sbbHl : RoundTrip.Statement .sbbHl := fun rest =>
  show decodeBytes .base (0x5A#8 :: rest) = .ok (.sbbHl, rest) from rfl

theorem RoundTrip.sbbImm (nn : Byte) : RoundTrip.Statement (.sbbImm nn) := fun rest =>
  show decodeBytes .base (0x5B#8 :: nn :: rest) = .ok ((.sbbImm nn), rest) from rfl

theorem RoundTrip.sbbXh : RoundTrip.Statement .sbbXh := fun rest =>
  show decodeBytes .base (0x5C#8 :: rest) = .ok (.sbbXh, rest) from rfl

theorem RoundTrip.sbbXl : RoundTrip.Statement .sbbXl := fun rest =>
  show decodeBytes .base (0x5D#8 :: rest) = .ok (.sbbXl, rest) from rfl

theorem RoundTrip.sbbYh : RoundTrip.Statement .sbbYh := fun rest =>
  show decodeBytes .base (0x5E#8 :: rest) = .ok (.sbbYh, rest) from rfl

theorem RoundTrip.sbbYl : RoundTrip.Statement .sbbYl := fun rest =>
  show decodeBytes .base (0x5F#8 :: rest) = .ok (.sbbYl, rest) from rfl

theorem RoundTrip.cmpAbs (b1 b2 : Byte) : RoundTrip.Statement (.cmpAbs b1 b2) := fun rest =>
  show decodeBytes .base (0x60#8 :: b1 :: b2 :: rest) = .ok ((.cmpAbs b1 b2), rest) from rfl

theorem RoundTrip.cmpZp (zz : Byte) : RoundTrip.Statement (.cmpZp zz) := fun rest =>
  show decodeBytes .base (0x61#8 :: zz :: rest) = .ok ((.cmpZp zz), rest) from rfl

theorem RoundTrip.cmpHl : RoundTrip.Statement .cmpHl := fun rest =>
  show decodeBytes .base (0x62#8 :: rest) = .ok (.cmpHl, rest) from rfl

theorem RoundTrip.cmpImm (nn : Byte) : RoundTrip.Statement (.cmpImm nn) := fun rest =>
  show decodeBytes .base (0x63#8 :: nn :: rest) = .ok ((.cmpImm nn), rest) from rfl

theorem RoundTrip.cmpXh : RoundTrip.Statement .cmpXh := fun rest =>
  show decodeBytes .base (0x64#8 :: rest) = .ok (.cmpXh, rest) from rfl

theorem RoundTrip.cmpXl : RoundTrip.Statement .cmpXl := fun rest =>
  show decodeBytes .base (0x65#8 :: rest) = .ok (.cmpXl, rest) from rfl

theorem RoundTrip.cmpYh : RoundTrip.Statement .cmpYh := fun rest =>
  show decodeBytes .base (0x66#8 :: rest) = .ok (.cmpYh, rest) from rfl

theorem RoundTrip.cmpYl : RoundTrip.Statement .cmpYl := fun rest =>
  show decodeBytes .base (0x67#8 :: rest) = .ok (.cmpYl, rest) from rfl

theorem RoundTrip.andAbs (b1 b2 : Byte) : RoundTrip.Statement (.andAbs b1 b2) := fun rest =>
  show decodeBytes .base (0x68#8 :: b1 :: b2 :: rest) = .ok ((.andAbs b1 b2), rest) from rfl

theorem RoundTrip.andZp (zz : Byte) : RoundTrip.Statement (.andZp zz) := fun rest =>
  show decodeBytes .base (0x69#8 :: zz :: rest) = .ok ((.andZp zz), rest) from rfl

theorem RoundTrip.andHl : RoundTrip.Statement .andHl := fun rest =>
  show decodeBytes .base (0x6A#8 :: rest) = .ok (.andHl, rest) from rfl

theorem RoundTrip.andImm (nn : Byte) : RoundTrip.Statement (.andImm nn) := fun rest =>
  show decodeBytes .base (0x6B#8 :: nn :: rest) = .ok ((.andImm nn), rest) from rfl

theorem RoundTrip.andXh : RoundTrip.Statement .andXh := fun rest =>
  show decodeBytes .base (0x6C#8 :: rest) = .ok (.andXh, rest) from rfl

theorem RoundTrip.andXl : RoundTrip.Statement .andXl := fun rest =>
  show decodeBytes .base (0x6D#8 :: rest) = .ok (.andXl, rest) from rfl

theorem RoundTrip.andYh : RoundTrip.Statement .andYh := fun rest =>
  show decodeBytes .base (0x6E#8 :: rest) = .ok (.andYh, rest) from rfl

theorem RoundTrip.andYl : RoundTrip.Statement .andYl := fun rest =>
  show decodeBytes .base (0x6F#8 :: rest) = .ok (.andYl, rest) from rfl

theorem RoundTrip.orAbs (b1 b2 : Byte) : RoundTrip.Statement (.orAbs b1 b2) := fun rest =>
  show decodeBytes .base (0x70#8 :: b1 :: b2 :: rest) = .ok ((.orAbs b1 b2), rest) from rfl

theorem RoundTrip.orZp (zz : Byte) : RoundTrip.Statement (.orZp zz) := fun rest =>
  show decodeBytes .base (0x71#8 :: zz :: rest) = .ok ((.orZp zz), rest) from rfl

theorem RoundTrip.orHl : RoundTrip.Statement .orHl := fun rest =>
  show decodeBytes .base (0x72#8 :: rest) = .ok (.orHl, rest) from rfl

theorem RoundTrip.orImm (nn : Byte) : RoundTrip.Statement (.orImm nn) := fun rest =>
  show decodeBytes .base (0x73#8 :: nn :: rest) = .ok ((.orImm nn), rest) from rfl

theorem RoundTrip.orXh : RoundTrip.Statement .orXh := fun rest =>
  show decodeBytes .base (0x74#8 :: rest) = .ok (.orXh, rest) from rfl

theorem RoundTrip.orXl : RoundTrip.Statement .orXl := fun rest =>
  show decodeBytes .base (0x75#8 :: rest) = .ok (.orXl, rest) from rfl

theorem RoundTrip.orYh : RoundTrip.Statement .orYh := fun rest =>
  show decodeBytes .base (0x76#8 :: rest) = .ok (.orYh, rest) from rfl

theorem RoundTrip.orYl : RoundTrip.Statement .orYl := fun rest =>
  show decodeBytes .base (0x77#8 :: rest) = .ok (.orYl, rest) from rfl

theorem RoundTrip.xorAbs (b1 b2 : Byte) : RoundTrip.Statement (.xorAbs b1 b2) := fun rest =>
  show decodeBytes .base (0x78#8 :: b1 :: b2 :: rest) = .ok ((.xorAbs b1 b2), rest) from rfl

theorem RoundTrip.xorZp (zz : Byte) : RoundTrip.Statement (.xorZp zz) := fun rest =>
  show decodeBytes .base (0x79#8 :: zz :: rest) = .ok ((.xorZp zz), rest) from rfl

theorem RoundTrip.xorHl : RoundTrip.Statement .xorHl := fun rest =>
  show decodeBytes .base (0x7A#8 :: rest) = .ok (.xorHl, rest) from rfl

theorem RoundTrip.xorImm (nn : Byte) : RoundTrip.Statement (.xorImm nn) := fun rest =>
  show decodeBytes .base (0x7B#8 :: nn :: rest) = .ok ((.xorImm nn), rest) from rfl

theorem RoundTrip.xorXh : RoundTrip.Statement .xorXh := fun rest =>
  show decodeBytes .base (0x7C#8 :: rest) = .ok (.xorXh, rest) from rfl

theorem RoundTrip.xorXl : RoundTrip.Statement .xorXl := fun rest =>
  show decodeBytes .base (0x7D#8 :: rest) = .ok (.xorXl, rest) from rfl

theorem RoundTrip.xorYh : RoundTrip.Statement .xorYh := fun rest =>
  show decodeBytes .base (0x7E#8 :: rest) = .ok (.xorYh, rest) from rfl

theorem RoundTrip.xorYl : RoundTrip.Statement .xorYl := fun rest =>
  show decodeBytes .base (0x7F#8 :: rest) = .ok (.xorYl, rest) from rfl

theorem RoundTrip.ldXhAbs (b1 b2 : Byte) : RoundTrip.Statement (.ldXhAbs b1 b2) := fun rest =>
  show decodeBytes .base (0x80#8 :: b1 :: b2 :: rest) = .ok ((.ldXhAbs b1 b2), rest) from rfl

theorem RoundTrip.ldXhZp (zz : Byte) : RoundTrip.Statement (.ldXhZp zz) := fun rest =>
  show decodeBytes .base (0x81#8 :: zz :: rest) = .ok ((.ldXhZp zz), rest) from rfl

theorem RoundTrip.ldXhHl : RoundTrip.Statement .ldXhHl := fun rest =>
  show decodeBytes .base (0x82#8 :: rest) = .ok (.ldXhHl, rest) from rfl

theorem RoundTrip.ldXhImm (nn : Byte) : RoundTrip.Statement (.ldXhImm nn) := fun rest =>
  show decodeBytes .base (0x83#8 :: nn :: rest) = .ok ((.ldXhImm nn), rest) from rfl

theorem RoundTrip.ldXlAbs (b1 b2 : Byte) : RoundTrip.Statement (.ldXlAbs b1 b2) := fun rest =>
  show decodeBytes .base (0x88#8 :: b1 :: b2 :: rest) = .ok ((.ldXlAbs b1 b2), rest) from rfl

theorem RoundTrip.ldXlZp (zz : Byte) : RoundTrip.Statement (.ldXlZp zz) := fun rest =>
  show decodeBytes .base (0x89#8 :: zz :: rest) = .ok ((.ldXlZp zz), rest) from rfl

theorem RoundTrip.ldXlHl : RoundTrip.Statement .ldXlHl := fun rest =>
  show decodeBytes .base (0x8A#8 :: rest) = .ok (.ldXlHl, rest) from rfl

theorem RoundTrip.ldXlImm (nn : Byte) : RoundTrip.Statement (.ldXlImm nn) := fun rest =>
  show decodeBytes .base (0x8B#8 :: nn :: rest) = .ok ((.ldXlImm nn), rest) from rfl

theorem RoundTrip.ldYhAbs (b1 b2 : Byte) : RoundTrip.Statement (.ldYhAbs b1 b2) := fun rest =>
  show decodeBytes .base (0x90#8 :: b1 :: b2 :: rest) = .ok ((.ldYhAbs b1 b2), rest) from rfl

theorem RoundTrip.ldYhZp (zz : Byte) : RoundTrip.Statement (.ldYhZp zz) := fun rest =>
  show decodeBytes .base (0x91#8 :: zz :: rest) = .ok ((.ldYhZp zz), rest) from rfl

theorem RoundTrip.ldYhHl : RoundTrip.Statement .ldYhHl := fun rest =>
  show decodeBytes .base (0x92#8 :: rest) = .ok (.ldYhHl, rest) from rfl

theorem RoundTrip.ldYhImm (nn : Byte) : RoundTrip.Statement (.ldYhImm nn) := fun rest =>
  show decodeBytes .base (0x93#8 :: nn :: rest) = .ok ((.ldYhImm nn), rest) from rfl

theorem RoundTrip.ldYlAbs (b1 b2 : Byte) : RoundTrip.Statement (.ldYlAbs b1 b2) := fun rest =>
  show decodeBytes .base (0x98#8 :: b1 :: b2 :: rest) = .ok ((.ldYlAbs b1 b2), rest) from rfl

theorem RoundTrip.ldYlZp (zz : Byte) : RoundTrip.Statement (.ldYlZp zz) := fun rest =>
  show decodeBytes .base (0x99#8 :: zz :: rest) = .ok ((.ldYlZp zz), rest) from rfl

theorem RoundTrip.ldYlHl : RoundTrip.Statement .ldYlHl := fun rest =>
  show decodeBytes .base (0x9A#8 :: rest) = .ok (.ldYlHl, rest) from rfl

theorem RoundTrip.ldYlImm (nn : Byte) : RoundTrip.Statement (.ldYlImm nn) := fun rest =>
  show decodeBytes .base (0x9B#8 :: nn :: rest) = .ok ((.ldYlImm nn), rest) from rfl

theorem RoundTrip.ldHAbs (b1 b2 : Byte) : RoundTrip.Statement (.ldHAbs b1 b2) := fun rest =>
  show decodeBytes .base (0xA0#8 :: b1 :: b2 :: rest) = .ok ((.ldHAbs b1 b2), rest) from rfl

theorem RoundTrip.ldHZp (zz : Byte) : RoundTrip.Statement (.ldHZp zz) := fun rest =>
  show decodeBytes .base (0xA1#8 :: zz :: rest) = .ok ((.ldHZp zz), rest) from rfl

theorem RoundTrip.ldHImm (nn : Byte) : RoundTrip.Statement (.ldHImm nn) := fun rest =>
  show decodeBytes .base (0xA3#8 :: nn :: rest) = .ok ((.ldHImm nn), rest) from rfl

theorem RoundTrip.ldLAbs (b1 b2 : Byte) : RoundTrip.Statement (.ldLAbs b1 b2) := fun rest =>
  show decodeBytes .base (0xA8#8 :: b1 :: b2 :: rest) = .ok ((.ldLAbs b1 b2), rest) from rfl

theorem RoundTrip.ldLZp (zz : Byte) : RoundTrip.Statement (.ldLZp zz) := fun rest =>
  show decodeBytes .base (0xA9#8 :: zz :: rest) = .ok ((.ldLZp zz), rest) from rfl

theorem RoundTrip.ldLImm (nn : Byte) : RoundTrip.Statement (.ldLImm nn) := fun rest =>
  show decodeBytes .base (0xAB#8 :: nn :: rest) = .ok ((.ldLImm nn), rest) from rfl

theorem RoundTrip.ldAccAbs (b1 b2 : Byte) : RoundTrip.Statement (.ldAccAbs b1 b2) := fun rest =>
  show decodeBytes .base (0xB0#8 :: b1 :: b2 :: rest) = .ok ((.ldAccAbs b1 b2), rest) from rfl

theorem RoundTrip.ldAccZp (zz : Byte) : RoundTrip.Statement (.ldAccZp zz) := fun rest =>
  show decodeBytes .base (0xB1#8 :: zz :: rest) = .ok ((.ldAccZp zz), rest) from rfl

theorem RoundTrip.ldAccHl : RoundTrip.Statement .ldAccHl := fun rest =>
  show decodeBytes .base (0xB2#8 :: rest) = .ok (.ldAccHl, rest) from rfl

theorem RoundTrip.ldAccImm (nn : Byte) : RoundTrip.Statement (.ldAccImm nn) := fun rest =>
  show decodeBytes .base (0xB3#8 :: nn :: rest) = .ok ((.ldAccImm nn), rest) from rfl

theorem RoundTrip.ldSpAbs (b1 b2 : Byte) : RoundTrip.Statement (.ldSpAbs b1 b2) := fun rest =>
  show decodeBytes .base (0xB8#8 :: b1 :: b2 :: rest) = .ok ((.ldSpAbs b1 b2), rest) from rfl

theorem RoundTrip.ldSpZp (zz : Byte) : RoundTrip.Statement (.ldSpZp zz) := fun rest =>
  show decodeBytes .base (0xB9#8 :: zz :: rest) = .ok ((.ldSpZp zz), rest) from rfl

theorem RoundTrip.ldSpHl : RoundTrip.Statement .ldSpHl := fun rest =>
  show decodeBytes .base (0xBA#8 :: rest) = .ok (.ldSpHl, rest) from rfl

theorem RoundTrip.ldSpImm (nn : Byte) : RoundTrip.Statement (.ldSpImm nn) := fun rest =>
  show decodeBytes .base (0xBB#8 :: nn :: rest) = .ok ((.ldSpImm nn), rest) from rfl

theorem RoundTrip.strXhAbs (b1 b2 : Byte) : RoundTrip.Statement (.strXhAbs b1 b2) := fun rest =>
  show decodeBytes .base (0x84#8 :: b1 :: b2 :: rest) = .ok ((.strXhAbs b1 b2), rest) from rfl

theorem RoundTrip.strXhZp (zz : Byte) : RoundTrip.Statement (.strXhZp zz) := fun rest =>
  show decodeBytes .base (0x85#8 :: zz :: rest) = .ok ((.strXhZp zz), rest) from rfl

theorem RoundTrip.strXhHl : RoundTrip.Statement .strXhHl := fun rest =>
  show decodeBytes .base (0x86#8 :: rest) = .ok (.strXhHl, rest) from rfl

theorem RoundTrip.strXlAbs (b1 b2 : Byte) : RoundTrip.Statement (.strXlAbs b1 b2) := fun rest =>
  show decodeBytes .base (0x8C#8 :: b1 :: b2 :: rest) = .ok ((.strXlAbs b1 b2), rest) from rfl

theorem RoundTrip.strXlZp (zz : Byte) : RoundTrip.Statement (.strXlZp zz) := fun rest =>
  show decodeBytes .base (0x8D#8 :: zz :: rest) = .ok ((.strXlZp zz), rest) from rfl

theorem RoundTrip.strXlHl : RoundTrip.Statement .strXlHl := fun rest =>
  show decodeBytes .base (0x8E#8 :: rest) = .ok (.strXlHl, rest) from rfl

theorem RoundTrip.strYhAbs (b1 b2 : Byte) : RoundTrip.Statement (.strYhAbs b1 b2) := fun rest =>
  show decodeBytes .base (0x94#8 :: b1 :: b2 :: rest) = .ok ((.strYhAbs b1 b2), rest) from rfl

theorem RoundTrip.strYhZp (zz : Byte) : RoundTrip.Statement (.strYhZp zz) := fun rest =>
  show decodeBytes .base (0x95#8 :: zz :: rest) = .ok ((.strYhZp zz), rest) from rfl

theorem RoundTrip.strYhHl : RoundTrip.Statement .strYhHl := fun rest =>
  show decodeBytes .base (0x96#8 :: rest) = .ok (.strYhHl, rest) from rfl

theorem RoundTrip.strYlAbs (b1 b2 : Byte) : RoundTrip.Statement (.strYlAbs b1 b2) := fun rest =>
  show decodeBytes .base (0x9C#8 :: b1 :: b2 :: rest) = .ok ((.strYlAbs b1 b2), rest) from rfl

theorem RoundTrip.strYlZp (zz : Byte) : RoundTrip.Statement (.strYlZp zz) := fun rest =>
  show decodeBytes .base (0x9D#8 :: zz :: rest) = .ok ((.strYlZp zz), rest) from rfl

theorem RoundTrip.strYlHl : RoundTrip.Statement .strYlHl := fun rest =>
  show decodeBytes .base (0x9E#8 :: rest) = .ok (.strYlHl, rest) from rfl

theorem RoundTrip.strHAbs (b1 b2 : Byte) : RoundTrip.Statement (.strHAbs b1 b2) := fun rest =>
  show decodeBytes .base (0xA4#8 :: b1 :: b2 :: rest) = .ok ((.strHAbs b1 b2), rest) from rfl

theorem RoundTrip.strHZp (zz : Byte) : RoundTrip.Statement (.strHZp zz) := fun rest =>
  show decodeBytes .base (0xA5#8 :: zz :: rest) = .ok ((.strHZp zz), rest) from rfl

theorem RoundTrip.strLAbs (b1 b2 : Byte) : RoundTrip.Statement (.strLAbs b1 b2) := fun rest =>
  show decodeBytes .base (0xAC#8 :: b1 :: b2 :: rest) = .ok ((.strLAbs b1 b2), rest) from rfl

theorem RoundTrip.strLZp (zz : Byte) : RoundTrip.Statement (.strLZp zz) := fun rest =>
  show decodeBytes .base (0xAD#8 :: zz :: rest) = .ok ((.strLZp zz), rest) from rfl

theorem RoundTrip.strAccAbs (b1 b2 : Byte) : RoundTrip.Statement (.strAccAbs b1 b2) := fun rest =>
  show decodeBytes .base (0xB4#8 :: b1 :: b2 :: rest) = .ok ((.strAccAbs b1 b2), rest) from rfl

theorem RoundTrip.strAccZp (zz : Byte) : RoundTrip.Statement (.strAccZp zz) := fun rest =>
  show decodeBytes .base (0xB5#8 :: zz :: rest) = .ok ((.strAccZp zz), rest) from rfl

theorem RoundTrip.strAccHl : RoundTrip.Statement .strAccHl := fun rest =>
  show decodeBytes .base (0xB6#8 :: rest) = .ok (.strAccHl, rest) from rfl

theorem RoundTrip.strSpAbs (b1 b2 : Byte) : RoundTrip.Statement (.strSpAbs b1 b2) := fun rest =>
  show decodeBytes .base (0xBC#8 :: b1 :: b2 :: rest) = .ok ((.strSpAbs b1 b2), rest) from rfl

theorem RoundTrip.strSpZp (zz : Byte) : RoundTrip.Statement (.strSpZp zz) := fun rest =>
  show decodeBytes .base (0xBD#8 :: zz :: rest) = .ok ((.strSpZp zz), rest) from rfl

theorem RoundTrip.strSpHl : RoundTrip.Statement .strSpHl := fun rest =>
  show decodeBytes .base (0xBE#8 :: rest) = .ok (.strSpHl, rest) from rfl

theorem RoundTrip.movXhXl : RoundTrip.Statement .movXhXl := fun rest =>
  show decodeBytes .base (0xC8#8 :: rest) = .ok (.movXhXl, rest) from rfl

theorem RoundTrip.movXhYh : RoundTrip.Statement .movXhYh := fun rest =>
  show decodeBytes .base (0xD0#8 :: rest) = .ok (.movXhYh, rest) from rfl

theorem RoundTrip.movXhYl : RoundTrip.Statement .movXhYl := fun rest =>
  show decodeBytes .base (0xD8#8 :: rest) = .ok (.movXhYl, rest) from rfl

theorem RoundTrip.movXhH : RoundTrip.Statement .movXhH := fun rest =>
  show decodeBytes .base (0xE0#8 :: rest) = .ok (.movXhH, rest) from rfl

theorem RoundTrip.movXhL : RoundTrip.Statement .movXhL := fun rest =>
  show decodeBytes .base (0xE8#8 :: rest) = .ok (.movXhL, rest) from rfl

theorem RoundTrip.movXhAcc : RoundTrip.Statement .movXhAcc := fun rest =>
  show decodeBytes .base (0xF0#8 :: rest) = .ok (.movXhAcc, rest) from rfl

theorem RoundTrip.movXhSp : RoundTrip.Statement .movXhSp := fun rest =>
  show decodeBytes .base (0xF8#8 :: rest) = .ok (.movXhSp, rest) from rfl

theorem RoundTrip.movXlXh : RoundTrip.Statement .movXlXh := fun rest =>
  show decodeBytes .base (0xC1#8 :: rest) = .ok (.movXlXh, rest) from rfl

theorem RoundTrip.movXlYh : RoundTrip.Statement .movXlYh := fun rest =>
  show decodeBytes .base (0xD1#8 :: rest) = .ok (.movXlYh, rest) from rfl

theorem RoundTrip.movXlYl : RoundTrip.Statement .movXlYl := fun rest =>
  show decodeBytes .base (0xD9#8 :: rest) = .ok (.movXlYl, rest) from rfl

theorem RoundTrip.movXlH : RoundTrip.Statement .movXlH := fun rest =>
  show decodeBytes .base (0xE1#8 :: rest) = .ok (.movXlH, rest) from rfl

theorem RoundTrip.movXlL : RoundTrip.Statement .movXlL := fun rest =>
  show decodeBytes .base (0xE9#8 :: rest) = .ok (.movXlL, rest) from rfl

theorem RoundTrip.movXlAcc : RoundTrip.Statement .movXlAcc := fun rest =>
  show decodeBytes .base (0xF1#8 :: rest) = .ok (.movXlAcc, rest) from rfl

theorem RoundTrip.movXlSp : RoundTrip.Statement .movXlSp := fun rest =>
  show decodeBytes .base (0xF9#8 :: rest) = .ok (.movXlSp, rest) from rfl

theorem RoundTrip.movYhXh : RoundTrip.Statement .movYhXh := fun rest =>
  show decodeBytes .base (0xC2#8 :: rest) = .ok (.movYhXh, rest) from rfl

theorem RoundTrip.movYhXl : RoundTrip.Statement .movYhXl := fun rest =>
  show decodeBytes .base (0xCA#8 :: rest) = .ok (.movYhXl, rest) from rfl

theorem RoundTrip.movYhYl : RoundTrip.Statement .movYhYl := fun rest =>
  show decodeBytes .base (0xDA#8 :: rest) = .ok (.movYhYl, rest) from rfl

theorem RoundTrip.movYhH : RoundTrip.Statement .movYhH := fun rest =>
  show decodeBytes .base (0xE2#8 :: rest) = .ok (.movYhH, rest) from rfl

theorem RoundTrip.movYhL : RoundTrip.Statement .movYhL := fun rest =>
  show decodeBytes .base (0xEA#8 :: rest) = .ok (.movYhL, rest) from rfl

theorem RoundTrip.movYhAcc : RoundTrip.Statement .movYhAcc := fun rest =>
  show decodeBytes .base (0xF2#8 :: rest) = .ok (.movYhAcc, rest) from rfl

theorem RoundTrip.movYhSp : RoundTrip.Statement .movYhSp := fun rest =>
  show decodeBytes .base (0xFA#8 :: rest) = .ok (.movYhSp, rest) from rfl

theorem RoundTrip.movYlXh : RoundTrip.Statement .movYlXh := fun rest =>
  show decodeBytes .base (0xC3#8 :: rest) = .ok (.movYlXh, rest) from rfl

theorem RoundTrip.movYlXl : RoundTrip.Statement .movYlXl := fun rest =>
  show decodeBytes .base (0xCB#8 :: rest) = .ok (.movYlXl, rest) from rfl

theorem RoundTrip.movYlYh : RoundTrip.Statement .movYlYh := fun rest =>
  show decodeBytes .base (0xD3#8 :: rest) = .ok (.movYlYh, rest) from rfl

theorem RoundTrip.movYlH : RoundTrip.Statement .movYlH := fun rest =>
  show decodeBytes .base (0xE3#8 :: rest) = .ok (.movYlH, rest) from rfl

theorem RoundTrip.movYlL : RoundTrip.Statement .movYlL := fun rest =>
  show decodeBytes .base (0xEB#8 :: rest) = .ok (.movYlL, rest) from rfl

theorem RoundTrip.movYlAcc : RoundTrip.Statement .movYlAcc := fun rest =>
  show decodeBytes .base (0xF3#8 :: rest) = .ok (.movYlAcc, rest) from rfl

theorem RoundTrip.movYlSp : RoundTrip.Statement .movYlSp := fun rest =>
  show decodeBytes .base (0xFB#8 :: rest) = .ok (.movYlSp, rest) from rfl

theorem RoundTrip.movHXh : RoundTrip.Statement .movHXh := fun rest =>
  show decodeBytes .base (0xC4#8 :: rest) = .ok (.movHXh, rest) from rfl

theorem RoundTrip.movHXl : RoundTrip.Statement .movHXl := fun rest =>
  show decodeBytes .base (0xCC#8 :: rest) = .ok (.movHXl, rest) from rfl

theorem RoundTrip.movHYh : RoundTrip.Statement .movHYh := fun rest =>
  show decodeBytes .base (0xD4#8 :: rest) = .ok (.movHYh, rest) from rfl

theorem RoundTrip.movHYl : RoundTrip.Statement .movHYl := fun rest =>
  show decodeBytes .base (0xDC#8 :: rest) = .ok (.movHYl, rest) from rfl

theorem RoundTrip.movHL : RoundTrip.Statement .movHL := fun rest =>
  show decodeBytes .base (0xEC#8 :: rest) = .ok (.movHL, rest) from rfl

theorem RoundTrip.movHAcc : RoundTrip.Statement .movHAcc := fun rest =>
  show decodeBytes .base (0xF4#8 :: rest) = .ok (.movHAcc, rest) from rfl

theorem RoundTrip.movHSp : RoundTrip.Statement .movHSp := fun rest =>
  show decodeBytes .base (0xFC#8 :: rest) = .ok (.movHSp, rest) from rfl

theorem RoundTrip.movLXh : RoundTrip.Statement .movLXh := fun rest =>
  show decodeBytes .base (0xC5#8 :: rest) = .ok (.movLXh, rest) from rfl

theorem RoundTrip.movLXl : RoundTrip.Statement .movLXl := fun rest =>
  show decodeBytes .base (0xCD#8 :: rest) = .ok (.movLXl, rest) from rfl

theorem RoundTrip.movLYh : RoundTrip.Statement .movLYh := fun rest =>
  show decodeBytes .base (0xD5#8 :: rest) = .ok (.movLYh, rest) from rfl

theorem RoundTrip.movLYl : RoundTrip.Statement .movLYl := fun rest =>
  show decodeBytes .base (0xDD#8 :: rest) = .ok (.movLYl, rest) from rfl

theorem RoundTrip.movLH : RoundTrip.Statement .movLH := fun rest =>
  show decodeBytes .base (0xE5#8 :: rest) = .ok (.movLH, rest) from rfl

theorem RoundTrip.movLAcc : RoundTrip.Statement .movLAcc := fun rest =>
  show decodeBytes .base (0xF5#8 :: rest) = .ok (.movLAcc, rest) from rfl

theorem RoundTrip.movLSp : RoundTrip.Statement .movLSp := fun rest =>
  show decodeBytes .base (0xFD#8 :: rest) = .ok (.movLSp, rest) from rfl

theorem RoundTrip.movAccXh : RoundTrip.Statement .movAccXh := fun rest =>
  show decodeBytes .base (0xC6#8 :: rest) = .ok (.movAccXh, rest) from rfl

theorem RoundTrip.movAccXl : RoundTrip.Statement .movAccXl := fun rest =>
  show decodeBytes .base (0xCE#8 :: rest) = .ok (.movAccXl, rest) from rfl

theorem RoundTrip.movAccYh : RoundTrip.Statement .movAccYh := fun rest =>
  show decodeBytes .base (0xD6#8 :: rest) = .ok (.movAccYh, rest) from rfl

theorem RoundTrip.movAccYl : RoundTrip.Statement .movAccYl := fun rest =>
  show decodeBytes .base (0xDE#8 :: rest) = .ok (.movAccYl, rest) from rfl

theorem RoundTrip.movAccH : RoundTrip.Statement .movAccH := fun rest =>
  show decodeBytes .base (0xE6#8 :: rest) = .ok (.movAccH, rest) from rfl

theorem RoundTrip.movAccL : RoundTrip.Statement .movAccL := fun rest =>
  show decodeBytes .base (0xEE#8 :: rest) = .ok (.movAccL, rest) from rfl

theorem RoundTrip.movAccSp : RoundTrip.Statement .movAccSp := fun rest =>
  show decodeBytes .base (0xFE#8 :: rest) = .ok (.movAccSp, rest) from rfl

theorem RoundTrip.movSpXh : RoundTrip.Statement .movSpXh := fun rest =>
  show decodeBytes .base (0xC7#8 :: rest) = .ok (.movSpXh, rest) from rfl

theorem RoundTrip.movSpXl : RoundTrip.Statement .movSpXl := fun rest =>
  show decodeBytes .base (0xCF#8 :: rest) = .ok (.movSpXl, rest) from rfl

theorem RoundTrip.movSpYh : RoundTrip.Statement .movSpYh := fun rest =>
  show decodeBytes .base (0xD7#8 :: rest) = .ok (.movSpYh, rest) from rfl

theorem RoundTrip.movSpYl : RoundTrip.Statement .movSpYl := fun rest =>
  show decodeBytes .base (0xDF#8 :: rest) = .ok (.movSpYl, rest) from rfl

theorem RoundTrip.movSpH : RoundTrip.Statement .movSpH := fun rest =>
  show decodeBytes .base (0xE7#8 :: rest) = .ok (.movSpH, rest) from rfl

theorem RoundTrip.movSpL : RoundTrip.Statement .movSpL := fun rest =>
  show decodeBytes .base (0xEF#8 :: rest) = .ok (.movSpL, rest) from rfl

theorem RoundTrip.movSpAcc : RoundTrip.Statement .movSpAcc := fun rest =>
  show decodeBytes .base (0xF7#8 :: rest) = .ok (.movSpAcc, rest) from rfl

theorem RoundTrip.extAddXhl : RoundTrip.Statement .extAddXhl := fun rest =>
  show decodeBytes .ext (0x00#8 :: rest) = .ok (.extAddXhl, rest) from rfl

theorem RoundTrip.extAddYhl : RoundTrip.Statement .extAddYhl := fun rest =>
  show decodeBytes .ext (0x01#8 :: rest) = .ok (.extAddYhl, rest) from rfl

theorem RoundTrip.extAdcXhl : RoundTrip.Statement .extAdcXhl := fun rest =>
  show decodeBytes .ext (0x08#8 :: rest) = .ok (.extAdcXhl, rest) from rfl

theorem RoundTrip.extAdcYhl : RoundTrip.Statement .extAdcYhl := fun rest =>
  show decodeBytes .ext (0x09#8 :: rest) = .ok (.extAdcYhl, rest) from rfl

theorem RoundTrip.extSubXhl : RoundTrip.Statement .extSubXhl := fun rest =>
  show decodeBytes .ext (0x10#8 :: rest) = .ok (.extSubXhl, rest) from rfl

theorem RoundTrip.extSubYhl : RoundTrip.Statement .extSubYhl := fun rest =>
  show decodeBytes .ext (0x11#8 :: rest) = .ok (.extSubYhl, rest) from rfl

theorem RoundTrip.extSbbXhl : RoundTrip.Statement .extSbbXhl := fun rest =>
  show decodeBytes .ext (0x18#8 :: rest) = .ok (.extSbbXhl, rest) from rfl

theorem RoundTrip.extSbbYhl : RoundTrip.Statement .extSbbYhl := fun rest =>
  show decodeBytes .ext (0x19#8 :: rest) = .ok (.extSbbYhl, rest) from rfl

theorem RoundTrip.extCmpXhl : RoundTrip.Statement .extCmpXhl := fun rest =>
  show decodeBytes .ext (0x20#8 :: rest) = .ok (.extCmpXhl, rest) from rfl

theorem RoundTrip.extCmpYhl : RoundTrip.Statement .extCmpYhl := fun rest =>
  show decodeBytes .ext (0x21#8 :: rest) = .ok (.extCmpYhl, rest) from rfl

theorem RoundTrip.extAndXhl : RoundTrip.Statement .extAndXhl := fun rest =>
  show decodeBytes .ext (0x28#8 :: rest) = .ok (.extAndXhl, rest) from rfl

theorem RoundTrip.extAndYhl : RoundTrip.Statement .extAndYhl := fun rest =>
  show decodeBytes .ext (0x29#8 :: rest) = .ok (.extAndYhl, rest) from rfl

theorem RoundTrip.extOrXhl : RoundTrip.Statement .extOrXhl := fun rest =>
  show decodeBytes .ext (0x30#8 :: rest) = .ok (.extOrXhl, rest) from rfl

theorem RoundTrip.extOrYhl : RoundTrip.Statement .extOrYhl := fun rest =>
  show decodeBytes .ext (0x31#8 :: rest) = .ok (.extOrYhl, rest) from rfl

theorem RoundTrip.extXorXhl : RoundTrip.Statement .extXorXhl := fun rest =>
  show decodeBytes .ext (0x38#8 :: rest) = .ok (.extXorXhl, rest) from rfl

theorem RoundTrip.extXorYhl : RoundTrip.Statement .extXorYhl := fun rest =>
  show decodeBytes .ext (0x39#8 :: rest) = .ok (.extXorYhl, rest) from rfl

theorem RoundTrip.extLdXhYhl : RoundTrip.Statement .extLdXhYhl := fun rest =>
  show decodeBytes .ext (0x03#8 :: rest) = .ok (.extLdXhYhl, rest) from rfl

theorem RoundTrip.extLdXlYhl : RoundTrip.Statement .extLdXlYhl := fun rest =>
  show decodeBytes .ext (0x0B#8 :: rest) = .ok (.extLdXlYhl, rest) from rfl

theorem RoundTrip.extLdYhXhl : RoundTrip.Statement .extLdYhXhl := fun rest =>
  show decodeBytes .ext (0x12#8 :: rest) = .ok (.extLdYhXhl, rest) from rfl

theorem RoundTrip.extLdYlXhl : RoundTrip.Statement .extLdYlXhl := fun rest =>
  show decodeBytes .ext (0x1A#8 :: rest) = .ok (.extLdYlXhl, rest) from rfl

theorem RoundTrip.extLdHXhl : RoundTrip.Statement .extLdHXhl := fun rest =>
  show decodeBytes .ext (0x22#8 :: rest) = .ok (.extLdHXhl, rest) from rfl

theorem RoundTrip.extLdHYhl : RoundTrip.Statement .extLdHYhl := fun rest =>
  show decodeBytes .ext (0x23#8 :: rest) = .ok (.extLdHYhl, rest) from rfl

theorem RoundTrip.extLdLXhl : RoundTrip.Statement .extLdLXhl := fun rest =>
  show decodeBytes .ext (0x2A#8 :: rest) = .ok (.extLdLXhl, rest) from rfl

theorem RoundTrip.extLdLYhl : RoundTrip.Statement .extLdLYhl := fun rest =>
  show decodeBytes .ext (0x2B#8 :: rest) = .ok (.extLdLYhl, rest) from rfl

theorem RoundTrip.extLdAccXhl : RoundTrip.Statement .extLdAccXhl := fun rest =>
  show decodeBytes .ext (0x32#8 :: rest) = .ok (.extLdAccXhl, rest) from rfl

theorem RoundTrip.extLdAccYhl : RoundTrip.Statement .extLdAccYhl := fun rest =>
  show decodeBytes .ext (0x33#8 :: rest) = .ok (.extLdAccYhl, rest) from rfl

theorem RoundTrip.extStrXhYhl : RoundTrip.Statement .extStrXhYhl := fun rest =>
  show decodeBytes .ext (0x05#8 :: rest) = .ok (.extStrXhYhl, rest) from rfl

theorem RoundTrip.extStrXlYhl : RoundTrip.Statement .extStrXlYhl := fun rest =>
  show decodeBytes .ext (0x0D#8 :: rest) = .ok (.extStrXlYhl, rest) from rfl

theorem RoundTrip.extStrYhXhl : RoundTrip.Statement .extStrYhXhl := fun rest =>
  show decodeBytes .ext (0x14#8 :: rest) = .ok (.extStrYhXhl, rest) from rfl

theorem RoundTrip.extStrYlXhl : RoundTrip.Statement .extStrYlXhl := fun rest =>
  show decodeBytes .ext (0x1C#8 :: rest) = .ok (.extStrYlXhl, rest) from rfl

theorem RoundTrip.extStrHXhl : RoundTrip.Statement .extStrHXhl := fun rest =>
  show decodeBytes .ext (0x24#8 :: rest) = .ok (.extStrHXhl, rest) from rfl

theorem RoundTrip.extStrHYhl : RoundTrip.Statement .extStrHYhl := fun rest =>
  show decodeBytes .ext (0x25#8 :: rest) = .ok (.extStrHYhl, rest) from rfl

theorem RoundTrip.extStrLXhl : RoundTrip.Statement .extStrLXhl := fun rest =>
  show decodeBytes .ext (0x2C#8 :: rest) = .ok (.extStrLXhl, rest) from rfl

theorem RoundTrip.extStrLYhl : RoundTrip.Statement .extStrLYhl := fun rest =>
  show decodeBytes .ext (0x2D#8 :: rest) = .ok (.extStrLYhl, rest) from rfl

theorem RoundTrip.extStrAccXhl : RoundTrip.Statement .extStrAccXhl := fun rest =>
  show decodeBytes .ext (0x34#8 :: rest) = .ok (.extStrAccXhl, rest) from rfl

theorem RoundTrip.extStrAccYhl : RoundTrip.Statement .extStrAccYhl := fun rest =>
  show decodeBytes .ext (0x35#8 :: rest) = .ok (.extStrAccYhl, rest) from rfl

theorem RoundTrip.extMovXhlYhl : RoundTrip.Statement .extMovXhlYhl := fun rest =>
  show decodeBytes .ext (0x16#8 :: rest) = .ok (.extMovXhlYhl, rest) from rfl

theorem RoundTrip.extMovXhlHl : RoundTrip.Statement .extMovXhlHl := fun rest =>
  show decodeBytes .ext (0x26#8 :: rest) = .ok (.extMovXhlHl, rest) from rfl

theorem RoundTrip.extMovYhlXhl : RoundTrip.Statement .extMovYhlXhl := fun rest =>
  show decodeBytes .ext (0x06#8 :: rest) = .ok (.extMovYhlXhl, rest) from rfl

theorem RoundTrip.extMovYhlHl : RoundTrip.Statement .extMovYhlHl := fun rest =>
  show decodeBytes .ext (0x2E#8 :: rest) = .ok (.extMovYhlHl, rest) from rfl

theorem RoundTrip.extMovHlXhl : RoundTrip.Statement .extMovHlXhl := fun rest =>
  show decodeBytes .ext (0x0E#8 :: rest) = .ok (.extMovHlXhl, rest) from rfl

theorem RoundTrip.extMovHlYhl : RoundTrip.Statement .extMovHlYhl := fun rest =>
  show decodeBytes .ext (0x1E#8 :: rest) = .ok (.extMovHlYhl, rest) from rfl

theorem RoundTrip.extPshXhl : RoundTrip.Statement .extPshXhl := fun rest =>
  show decodeBytes .ext (0x07#8 :: rest) = .ok (.extPshXhl, rest) from rfl

theorem RoundTrip.extPshYhl : RoundTrip.Statement .extPshYhl := fun rest =>
  show decodeBytes .ext (0x17#8 :: rest) = .ok (.extPshYhl, rest) from rfl

theorem RoundTrip.extPshHl : RoundTrip.Statement .extPshHl := fun rest =>
  show decodeBytes .ext (0x27#8 :: rest) = .ok (.extPshHl, rest) from rfl

theorem RoundTrip.extPshPc : RoundTrip.Statement .extPshPc := fun rest =>
  show decodeBytes .ext (0x37#8 :: rest) = .ok (.extPshPc, rest) from rfl

theorem RoundTrip.extPopXhl : RoundTrip.Statement .extPopXhl := fun rest =>
  show decodeBytes .ext (0x0F#8 :: rest) = .ok (.extPopXhl, rest) from rfl

theorem RoundTrip.extPopYhl : RoundTrip.Statement .extPopYhl := fun rest =>
  show decodeBytes .ext (0x1F#8 :: rest) = .ok (.extPopYhl, rest) from rfl

theorem RoundTrip.extPopHl : RoundTrip.Statement .extPopHl := fun rest =>
  show decodeBytes .ext (0x2F#8 :: rest) = .ok (.extPopHl, rest) from rfl

theorem RoundTrip.extPopPc : RoundTrip.Statement .extPopPc := fun rest =>
  show decodeBytes .ext (0x3F#8 :: rest) = .ok (.extPopPc, rest) from rfl

end Sys2Proof.Laws
end

