-- ==== Sys2Proof/Tests/Slice0.lean ====
section
/-! SUPPORT. Small tests: ill-formed terms, words written out from the spec's encodings, one step on small states with the values
of spec/95_test_vectors.md, and for each obligation a state and operands that meet its hypotheses. -/

namespace Sys2Proof.Tests
open Sys2Proof.Machine

/-! Helpers. -/

/-- The launch state with `bytes` stored at `a` and `pc` there, and a next draw that does not raise I. -/
def cpu (a : Addr) (bytes : List Byte) : State :=
  { State.reset with pc := a, mem := loadBytes [] a bytes, iDraws := [false] }

/-- The same in extended mode. -/
def cpuExt (a : Addr) (bytes : List Byte) : State := { cpu a bytes with ext := true }

/-- Flags C, N, Z, I. -/
def fl (c n z i : Bool) : Flags := { c := c, n := n, z := z, i := i }

/-- One byte of the state stored at an address. -/
def poke (s : State) (a : Addr) (v : Byte) : State := s.setMem (s.mem.write a v)

/-- A memory map of one range of one kind, and ram above it. -/
def mapped (s : State) (first last : Nat) (k : CellKind) : State :=
  { s with cfg := { s.cfg with memMap := [{ first := first, last := last, kind := k }, { first := 0, last := 65535, kind := .ram }] } }

/-- What a next state shows; none if there is none. -/
def seen {α : Type} (f : State → α) (r : Result) : Option α :=
  match r with
  | .next t => some (f t)
  | .fault _ => none
  | .refused _ => none

/-- `State.holds` for a concrete list, as something `decide` can run. -/
theorem holds_of (s : State) (bs : List Byte)
    (h : ∀ k, k < bs.length → fetchAdmitted (s.kindAt (s.pc + BitVec.ofNat 16 k)) = true ∧
      some (s.mem.read (s.pc + BitVec.ofNat 16 k)) = bs[k]?) : s.holds bs := by
  intro k b hb
  have hk := h k (List.getElem?_eq_some_iff.mp hb).1
  exact ⟨hk.1, Option.some.inj (hk.2.trans hb)⟩

/-! Ill-formed terms (30_encoding.md R115, R116; 20_memory.md R70): each check refuses one. -/

theorem test_ill_return_i : (Form.rtn .i).wf = false := rfl
theorem test_ill_push_sp : (Form.psh .sp).wf = false := rfl
theorem test_ill_pop_sp : (Form.pop .sp).wf = false := rfl
theorem test_ill_alu_register : (Form.alu .add (.reg .h)).wf = false := rfl
theorem test_ill_load_register : (Form.ld .xh (.reg .xl)).wf = false := rfl
theorem test_ill_load_own_hl : (Form.ld .h (.mem (.ind .hl))).wf = false := rfl
theorem test_ill_load_own_pair : (Form.ld .xl (.mem (.ind .xhl))).wf = false := rfl
theorem test_ill_load_sp_pair : (Form.ld .sp (.mem (.ind .yhl))).wf = false := rfl
theorem test_ill_store_own_hl : (Form.str .l (.ind .hl)).wf = false := rfl
theorem test_ill_store_own_pair : (Form.str .yh (.ind .yhl)).wf = false := rfl
theorem test_ill_store_sp_pair : (Form.str .sp (.ind .xhl)).wf = false := rfl
theorem test_ill_move_to_itself : (Form.mov .acc .acc).wf = false := rfl
theorem test_ill_move_pair_to_itself : (Form.movPair .hl .hl).wf = false := rfl
theorem test_ill_region_empty : Region.wf { first := 2, last := 1, kind := .ram } = false := rfl
theorem test_ill_region_beyond_memory : Region.wf { first := 0, last := 65536, kind := .ram } = false := rfl
theorem test_ill_map : Config.wf { Config.launch with memMap := [{ first := 5, last := 0, kind := .rom }] } = false := rfl
theorem test_ill_memory_not_rising : Memory.wf [(7, 1#8), (7, 2#8)] = false := by decide
theorem test_ill_memory_lists_unlisted : Memory.wf [(7, 0#8)] = false := by decide
theorem test_ill_memory_beyond_space : Memory.wf [(65536, 1#8)] = false := by decide

/-! Words written out from the "encoding" bits of spec/opcode_table.json, at least one for each family and each kind of operand. -/

theorem test_words_machine_control :
  decodeBytes .base [0b00000000, 0xA5] = .ok (.nin, [0xA5]) ∧
  decodeBytes .base [0b00110000, 0xA5] = .ok (.ext, [0xA5]) ∧
  decodeBytes .base [0b00111000, 0xA5] = .ok (.hlt, [0xA5]) ∧
  decodeBytes .base [0b00100000, 0xA5] = .ok (.cli, [0xA5]) :=
  ⟨rfl, rfl, rfl, rfl⟩

theorem test_words_program_flow :
  decodeBytes .base [0b00000001, 0x12, 0x34, 0xA5] = .ok ((.jmpU 0x12 0x34), [0xA5]) ∧
  decodeBytes .base [0b00111001, 0x12, 0x34, 0xA5] = .ok ((.jmpI 0x12 0x34), [0xA5]) ∧
  decodeBytes .base [0b00100010, 0x12, 0x34, 0xA5] = .ok ((.jsrNc 0x12 0x34), [0xA5]) ∧
  decodeBytes .base [0b00110011, 0xA5] = .ok (.rtnNz, [0xA5]) :=
  ⟨rfl, rfl, rfl, rfl⟩

theorem test_words_stack_and_pairs :
  decodeBytes .base [0b00000100, 0xA5] = .ok (.pshXh, [0xA5]) ∧
  decodeBytes .base [0b00110101, 0xA5] = .ok (.popAcc, [0xA5]) ∧
  decodeBytes .base [0b00100110, 0xA5] = .ok (.incHl, [0xA5]) ∧
  decodeBytes .base [0b00011110, 0xA5] = .ok (.decYhl, [0xA5]) :=
  ⟨rfl, rfl, rfl, rfl⟩

theorem test_words_accumulator :
  decodeBytes .base [0b00000111, 0xA5] = .ok (.incAcc, [0xA5]) ∧
  decodeBytes .base [0b00101111, 0xA5] = .ok (.lshAcc, [0xA5]) ∧
  decodeBytes .base [0b00110111, 0xA5] = .ok (.notAcc, [0xA5]) :=
  ⟨rfl, rfl, rfl⟩

theorem test_words_arithmetic :
  decodeBytes .base [0b01000000, 0x12, 0x34, 0xA5] = .ok ((.addAbs 0x12 0x34), [0xA5]) ∧
  decodeBytes .base [0b01001001, 0x12, 0xA5] = .ok ((.adcZp 0x12), [0xA5]) ∧
  decodeBytes .base [0b01010010, 0xA5] = .ok (.subHl, [0xA5]) ∧
  decodeBytes .base [0b01011011, 0x12, 0xA5] = .ok ((.sbbImm 0x12), [0xA5]) ∧
  decodeBytes .base [0b01100100, 0xA5] = .ok (.cmpXh, [0xA5]) ∧
  decodeBytes .base [0b01000111, 0xA5] = .ok (.addYl, [0xA5]) :=
  ⟨rfl, rfl, rfl, rfl, rfl, rfl⟩

theorem test_words_logic :
  decodeBytes .base [0b01101000, 0x12, 0x34, 0xA5] = .ok ((.andAbs 0x12 0x34), [0xA5]) ∧
  decodeBytes .base [0b01110011, 0x12, 0xA5] = .ok ((.orImm 0x12), [0xA5]) ∧
  decodeBytes .base [0b01111101, 0xA5] = .ok (.xorXl, [0xA5]) :=
  ⟨rfl, rfl, rfl⟩

theorem test_words_load_store :
  decodeBytes .base [0b10000000, 0x12, 0x34, 0xA5] = .ok ((.ldXhAbs 0x12 0x34), [0xA5]) ∧
  decodeBytes .base [0b10011001, 0x12, 0xA5] = .ok ((.ldYlZp 0x12), [0xA5]) ∧
  decodeBytes .base [0b10110010, 0xA5] = .ok (.ldAccHl, [0xA5]) ∧
  decodeBytes .base [0b10111011, 0x12, 0xA5] = .ok ((.ldSpImm 0x12), [0xA5]) ∧
  decodeBytes .base [0b10001100, 0x12, 0x34, 0xA5] = .ok ((.strXlAbs 0x12 0x34), [0xA5]) ∧
  decodeBytes .base [0b10100101, 0x12, 0xA5] = .ok ((.strHZp 0x12), [0xA5]) ∧
  decodeBytes .base [0b10111110, 0xA5] = .ok (.strSpHl, [0xA5]) :=
  ⟨rfl, rfl, rfl, rfl, rfl, rfl, rfl⟩

theorem test_words_move :
  decodeBytes .base [0b11001000, 0xA5] = .ok (.movXhXl, [0xA5]) ∧
  decodeBytes .base [0b11110111, 0xA5] = .ok (.movSpAcc, [0xA5]) ∧
  decodeBytes .base [0b11111110, 0xA5] = .ok (.movAccSp, [0xA5]) ∧
  decodeBytes .base [0b11101100, 0xA5] = .ok (.movHL, [0xA5]) :=
  ⟨rfl, rfl, rfl, rfl⟩

theorem test_words_extended_alu :
  decodeBytes .ext [0b00000000, 0xA5] = .ok (.extAddXhl, [0xA5]) ∧
  decodeBytes .ext [0b00100001, 0xA5] = .ok (.extCmpYhl, [0xA5]) ∧
  decodeBytes .ext [0b00110000, 0xA5] = .ok (.extOrXhl, [0xA5]) :=
  ⟨rfl, rfl, rfl⟩

theorem test_words_extended_load_store :
  decodeBytes .ext [0b00000011, 0xA5] = .ok (.extLdXhYhl, [0xA5]) ∧
  decodeBytes .ext [0b00110100, 0xA5] = .ok (.extStrAccXhl, [0xA5]) ∧
  decodeBytes .ext [0b00110101, 0xA5] = .ok (.extStrAccYhl, [0xA5]) :=
  ⟨rfl, rfl, rfl⟩

theorem test_words_extended_16bit :
  decodeBytes .ext [0b00010110, 0xA5] = .ok (.extMovXhlYhl, [0xA5]) ∧
  decodeBytes .ext [0b00001110, 0xA5] = .ok (.extMovHlXhl, [0xA5]) ∧
  decodeBytes .ext [0b00110111, 0xA5] = .ok (.extPshPc, [0xA5]) ∧
  decodeBytes .ext [0b00011111, 0xA5] = .ok (.extPopYhl, [0xA5]) :=
  ⟨rfl, rfl, rfl, rfl⟩

theorem test_unlisted_words :
    decodeBytes .base [0o073] = .error (.unlisted .base 0o073) ∧ decodeBytes .base [0o246] = .error (.unlisted .base 0o246) ∧
    decodeBytes .ext [0o002] = .error (.unlisted .ext 0o002) ∧ decodeBytes .ext [0o103] = .error (.unlisted .ext 0o103) :=
  ⟨rfl, rfl, rfl, rfl⟩

/-- The table's bit order: bit 0 is the lowest bit of the first byte; an extended row's byte is read as such where the base map
lists none, or after its `EXT` (log 21). -/
theorem test_table_words :
    decodeTableWord 24 0x341201 = some (.jmpU 0x12 0x34) ∧ decodeTableWord 8 0x01 = some (.jmpU 0x00 0x00) ∧
    decodeTableWord 16 0x0030 = some .extAddXhl ∧ decodeTableWord 8 0x3F = some .extPopPc ∧ decodeTableWord 8 0x3C = none :=
  ⟨rfl, rfl, rfl, rfl, rfl⟩

theorem test_placed_words_run :
    seen (fun t => t.pc) (step (State.reset.withFetchWord 24 0x341201)) = some 0x1234 ∧
    seen (fun t => (t.ext, t.pc)) (step (State.reset.withFetchWord 16 0x2730)) = some (false, 0x0001) := by decide

/-! One step, values of spec/95_test_vectors.md. -/

theorem test_V6_clf : seen (fun t => (t.flags, t.pc)) (step { cpu 0x0200 [0x28] with flags := fl true true true true }) =
    some (fl false false false false, 0x0201) := by decide
theorem test_V7_ext : seen (fun t => (t.ext, t.pc)) (step (cpu 0x0200 [0x30])) = some (true, 0x0201) := by decide
theorem test_V12_halt_wraps : seen (fun t => (t.run, t.pc)) (step (cpu 0xFFFF [0x38])) = some (.halted, 0x0000) := by decide
theorem test_V15_refused : step (cpuExt 0x0201 [0x43, 0x01]) = .refused (.unlistedExt 0o103) := rfl
theorem test_V16_refused : step (cpu 0x0200 [0x3F]) = .refused (.unlistedBase 0o077) := rfl
theorem test_V29_jump_not_taken : seen (fun t => t.pc) (step { cpu 0x0200 [0x31, 0x12, 0x34] with flags := fl false false true false }) =
    some 0x0203 := by decide
theorem test_V33_jump_straddles : seen (fun t => t.pc) (step (cpu 0xFFFE [0x01, 0x80, 0x10])) = some 0x8010 := by decide
theorem test_V38_call_wraps :
    seen (fun t => (t.regs.sp, t.mem.read 0x01FF, t.mem.read 0x0100, t.pc))
      (step ((cpu 0x0200 [0x02, 0x30, 0x00]).setReg .sp 0xFF)) = some (0x01, 0x02, 0x03, 0x3000) := by decide
theorem test_V43_return_wraps :
    seen (fun t => (t.regs.sp, t.pc)) (step (poke (poke ((cpu 0x3005 [0x03]).setReg .sp 0x01) 0x0100 0x37) 0x01FF 0x02)) =
      some (0xFF, 0x0237) := by decide
theorem test_V47_push_wraps :
    seen (fun t => (t.regs.sp, t.mem.read 0x01FF)) (step (((cpu 0x0200 [0x04]).setReg .xh 0x11).setReg .sp 0xFF)) =
      some (0x00, 0x11) := by decide
theorem test_V50_pop_wraps :
    seen (fun t => (t.regs.sp, t.regs.h, t.flags)) (step (poke (cpu 0x0200 [0x25]) 0x01FF 0x5A)) =
      some (0xFF, 0x5A, fl false false false false) := by decide
theorem test_V53_inc_pair_carries :
    seen (fun t => (t.regs.h, t.regs.l)) (step ((cpu 0x0200 [0x26]).setReg .l 0xFF)) = some (0x01, 0x00) := by decide
theorem test_V55_dec_pair_wraps :
    seen (fun t => (t.regs.yh, t.regs.yl)) (step (cpu 0x0200 [0x1E])) = some (0xFF, 0xFF) := by decide
theorem test_V61_dec_borrows :
    seen (fun t => (t.regs.acc, t.flags)) (step (cpu 0x0200 [0x0F])) = some (0xFF, fl true true false false) := by decide
theorem test_V64_ror :
    seen (fun t => (t.regs.acc, t.flags)) (step { (cpu 0x0200 [0x17]).setReg .acc 0x01 with flags := fl true false false false }) =
      some (0x80, fl true true false false) := by decide
theorem test_V67_rol :
    seen (fun t => (t.regs.acc, t.flags)) (step { (cpu 0x0200 [0x1F]).setReg .acc 0x40 with flags := fl true false false false }) =
      some (0x81, fl false true false false) := by decide
theorem test_V70_lsh :
    seen (fun t => (t.regs.acc, t.flags)) (step ((cpu 0x0200 [0x2F]).setReg .acc 0x81)) =
      some (0x02, fl true false false false) := by decide
theorem test_V73_not :
    seen (fun t => (t.regs.acc, t.flags.n, t.flags.z)) (step ((cpu 0x0200 [0x37]).setReg .acc 0xFF)) =
      some (0x00, false, true) := by decide
theorem test_V76_add :
    seen (fun t => (t.regs.acc, t.flags)) (step ((cpu 0x0200 [0x43, 0x01]).setReg .acc 0x7F)) =
      some (0x80, fl false true false false) := by decide
theorem test_V82_adc :
    seen (fun t => (t.regs.acc, t.flags))
      (step { (cpu 0x0200 [0x4B, 0x00]).setReg .acc 0xFF with flags := fl true false false false }) =
      some (0x00, fl true false true false) := by decide
theorem test_V89_sbb :
    seen (fun t => (t.regs.acc, t.flags)) (step { cpu 0x0200 [0x5B, 0xFF] with flags := fl true false false false }) =
      some (0x00, fl true false true false) := by decide
theorem test_V91_cmp :
    seen (fun t => (t.regs.acc, t.flags)) (step ((cpu 0x0200 [0x63, 0x50]).setReg .acc 0x42)) =
      some (0x42, fl true true false false) := by decide
theorem test_V96_and :
    seen (fun t => (t.regs.acc, t.flags.n, t.flags.z)) (step (poke ((cpu 0x0200 [0x68, 0x12, 0x34]).setReg .acc 0xF0) 0x1234 0x0F)) =
      some (0x00, false, true) := by decide
theorem test_V103_load_writes_no_flag :
    seen (fun t => (t.regs.acc, t.flags)) (step ((cpu 0x0200 [0xB3, 0x00]).setReg .acc 0x55)) =
      some (0x00, fl false false false false) := by decide
theorem test_V112_store_hl :
    seen (fun t => t.mem.read 0x3002)
      (step ((((cpu 0x0200 [0x96]).setReg .h 0x30).setReg .l 0x02).setReg .yh 0x11)) = some 0x11 := by decide
theorem test_R401_move :
    seen (fun t => (t.regs.xh, t.regs.xl)) (step ((cpu 0x0200 [0xC8]).setReg .xh 0x11)) = some (0x11, 0x11) := by decide
theorem test_V8_extended_add :
    seen (fun t => (t.regs.acc, t.ext)) (step (poke (((cpuExt 0x0201 [0x00]).setReg .xh 0x40).setReg .acc 0x01) 0x4000 0x02)) =
      some (0x03, false) := by decide
theorem test_V10_extended_push :
    seen (fun t => (t.regs.sp, t.mem.read 0x0110, t.mem.read 0x0111, t.ext))
      (step ((((cpuExt 0x0201 [0x27]).setReg .h 0x12).setReg .l 0x34).setReg .sp 0x10)) = some (0x12, 0x12, 0x34, false) := by decide
theorem test_R523_draw_before_cli :
    seen (fun t => (t.flags.i, t.iDraws)) (step { cpu 0x0200 [0x20] with iDraws := [true, true] }) = some (false, [true]) := by decide
/-- The draws of the launch state are free: I after its first boundary is an unknown of its own (R48, log 7). -/
theorem test_R48_free_draws :
    (boundary State.reset).flags.i = Config.iRaise 0 ∧ (boundary (boundary State.reset)).iRaise = Config.iRaise 2 :=
  ⟨Bool.false_or _, rfl⟩

/-! Witnesses: for each obligation with hypotheses, a state and operands that meet them all, clause by clause. -/

/-- The state of most witnesses: Acc 0x81, HL and Xhl 0x4000, SP 0xFF, C set. -/
def busy (a : Addr) (bytes : List Byte) : State :=
  { ((((cpu a bytes).setReg .acc 0x81).setReg .h 0x40).setReg .xh 0x40).setReg .sp 0xFF with flags := fl true false false false }

theorem witness_ListedFormsAreTheInstructions : (Instr.jmpNz 1 2).form = (Instr.jmpNz 1 2).form := rfl

theorem witness_LengthIsFixedByTheOpcode :
    Instr.extPshPc.mode = .ext ∧ (Instr.jmpNz 0 0).mode = (Instr.jmpNz 255 255).mode ∧
    (Instr.jmpNz 0 0).form.opcode = (Instr.jmpNz 255 255).form.opcode := by decide

theorem witness_RefusedExactlyOnUnlistedOpcodes :
    (cpu 0xFFFF [0o377]).run = .running ∧ fetchAdmitted ((cpu 0xFFFF [0o377]).kindAt 0xFFFF) = true ∧
    (cpu 0xFFFF [0o377]).ext = false ∧ (cpu 0xFFFF [0o377]).mem.read 0xFFFF = 0o377 ∧
    (cpuExt 0 [0o100]).run = .running ∧ fetchAdmitted ((cpuExt 0 [0o100]).kindAt 0) = true ∧
    (cpuExt 0 [0o100]).ext = true ∧ 0o100 ≤ ((cpuExt 0 [0o100]).mem.read 0).toNat := by decide

theorem witness_NothingElseIsRefused :
    step (cpu 0xFFFF [0o073]) = .refused (.unlistedBase 0o073) ∧ step (cpuExt 0 [0o002]) = .refused (.unlistedExt 0o002) :=
  ⟨rfl, rfl⟩

theorem witness_ready_base : (busy 0xFFFE [0x01, 0x80, 0x10]).ready (.jmpU 0x80 0x10) :=
  ⟨rfl, rfl, holds_of _ _ (by decide)⟩

theorem witness_ready_ext : (cpuExt 0xFFFF [0x27]).ready .extPshHl := ⟨rfl, rfl, holds_of _ _ (by decide)⟩

theorem witness_StepRunsTheDecodedInstruction : ∃ (s : State) (i : Instr), s.ready i ∧ s.iDraws = [true] :=
  ⟨{ cpu 0xFFFF [0x27] with iDraws := [true] }, .rshAcc, ⟨rfl, rfl, holds_of _ _ (by decide)⟩, rfl⟩

theorem witness_StepExactlyWhenEverythingIsAdmitted :
    (cpu 0xFFFF [0x03]).ready .rtnU ∧ dataAdmitted Instr.rtnU.form (boundary (cpu 0xFFFF [0x03])) = true :=
  ⟨⟨rfl, rfl, holds_of _ _ (by decide)⟩, by decide⟩

theorem witness_bit_bounds : 0 < 7 ∧ 6 < 7 ∧ 0 < 8 ∧ 7 < 8 := by decide

theorem witness_PairsAreViews : Pair.xhl.holds .sp = false ∧ Pair.hl.holds .xh = false ∧ Pair.yhl.holds .xl = false := by decide

theorem witness_ReadAfterWrite : Memory.wf [] = true ∧ Memory.wf [(0, 1#8), (65535, 255#8)] = true := by decide

theorem witness_AccessesByKind :
    (mapped State.reset 5 9 .rom).kindAt 4 = .ram ∧ (mapped State.reset 5 9 .rom).kindAt 5 = .rom ∧
    (mapped State.reset 5 9 .absent).kindAt 9 = .absent ∧ (mapped State.reset 0 0xFFFF .device).kindAt 0xFFFF = .device := by decide

theorem witness_PushAndPopOneByte :
    writeAdmitted ((busy 0 []).kindAt ((busy 0 []).cfg.stackPage ++ (busy 0 []).regs.sp)) = true ∧
    readAdmitted (State.reset.kindAt (State.reset.cfg.stackPage ++ (State.reset.regs.sp - 1#8))) = true := by decide

theorem witness_PopUndoesPush :
    (busy 0 []).mem.wf = true ∧ (busy 0 []).kindAt ((busy 0 []).stackAddr (busy 0 []).regs.sp) = .ram ∧
    (busy 0 []).kindAt ((busy 0 []).stackAddr ((busy 0 []).regs.sp + 1#8)) = .ram := by decide

theorem witness_JumpResult :
    (Instr.jmpC 0xFF 0xFF).form = .jmp .c 0xFF 0xFF ∧ condHolds .c (busy 0 []).flags = true ∧
    (Instr.jmpI 0 0).form = .jmp .i 0 0 ∧ condHolds .i (busy 0 []).flags = false := by decide

theorem witness_UntakenConditionalOnlyAdvances :
    condHolds .nc (busy 0 []).flags = false ∧ (Instr.jmpNc 1 2).form = .jmp .nc 1 2 ∧ (Instr.jsrNc 1 2).form = .jsr .nc 1 2 ∧
    Instr.rtnNc.form = .rtn .nc := by decide

theorem witness_CallResult :
    (Instr.jsrC 0x30 0).form = .jsr .c 0x30 0 ∧ condHolds .c (busy 0 []).flags = true ∧
    writeAdmitted ((busy 0 []).kindAt ((busy 0 []).stackAddr (busy 0 []).regs.sp)) = true ∧
    writeAdmitted ((busy 0 []).kindAt ((busy 0 []).stackAddr ((busy 0 []).regs.sp + 1#8))) = true := by decide

theorem witness_ReturnResult :
    Instr.rtnU.form = .rtn .u ∧ condHolds .u State.reset.flags = true ∧
    readAdmitted (State.reset.kindAt (State.reset.stackAddr (State.reset.regs.sp - 1#8))) = true ∧
    readAdmitted (State.reset.kindAt (State.reset.stackAddr (State.reset.regs.sp - 2#8))) = true := by decide

theorem witness_PushRegisterResult :
    Instr.pshAcc.form = .psh .acc ∧ writeAdmitted ((busy 0 []).kindAt ((busy 0 []).stackAddr (busy 0 []).regs.sp)) = true := by decide

theorem witness_PopRegisterResult :
    Instr.popXh.form = .pop .xh ∧
    readAdmitted (State.reset.kindAt (State.reset.stackAddr (State.reset.regs.sp - 1#8))) = true := by decide

theorem witness_PairCountResult : Instr.incHl.form = .incPair .hl ∧ Instr.decXhl.form = .decPair .xhl := ⟨rfl, rfl⟩

/-- Acc is 0x81 and C is 1: the four results and carries that the hypotheses of `ShiftResult` ask for. -/
theorem witness_ShiftResult :
    (0xC0#8).toNat = (busy 0 []).regs.acc.toNat / 2 + 128 * (busy 0 []).flags.c.toNat ∧ true = (busy 0 []).regs.acc.getLsbD 0 ∧
    2 * (busy 0 []).regs.acc.toNat + (busy 0 []).flags.c.toNat = 256 * true.toNat + (0x03#8).toNat ∧
    (0x40#8).toNat = (busy 0 []).regs.acc.toNat / 2 ∧
    2 * (busy 0 []).regs.acc.toNat = 256 * true.toNat + (0x02#8).toNat := by decide

theorem witness_AddResult :
    (Instr.adcHl).form = .alu .adc (.mem (.ind .hl)) ∧ (busy 0 []).sourceAdmitted (.mem (.ind .hl)) = true ∧
    Instr.extAddXhl.form = .alu .add (.mem (.ind .xhl)) ∧ (busy 0 []).sourceAdmitted (.mem (.ind .xhl)) = true := by decide

theorem witness_SubtractResult :
    (Instr.subImm 0xFF).form = .alu .sub (.imm 0xFF) ∧ (Instr.sbbAbs 0xFF 0xFF).form = .alu .sbb (.mem (.abs 0xFF 0xFF)) ∧
    Instr.cmpXh.form = .alu .cmp (.reg .xh) ∧ (busy 0 []).sourceAdmitted (.imm 0xFF) = true ∧
    (busy 0 []).sourceAdmitted (.mem (.abs 0xFF 0xFF)) = true ∧ (busy 0 []).sourceAdmitted (.reg .xh) = true := by decide

theorem witness_LogicResult :
    (Instr.andZp 0).form = .alu .and (.mem (.zp 0)) ∧ (Instr.orImm 0).form = .alu .or (.imm 0) ∧
    Instr.extXorYhl.form = .alu .xor (.mem (.ind .yhl)) ∧ (busy 0 []).sourceAdmitted (.mem (.zp 0)) = true ∧
    (busy 0 []).sourceAdmitted (.imm 0) = true ∧ (busy 0 []).sourceAdmitted (.mem (.ind .yhl)) = true := by decide

theorem witness_LoadResult :
    (Instr.ldSpImm 0xF0).form = .ld .sp (.imm 0xF0) ∧ (busy 0 []).sourceAdmitted (.imm 0xF0) = true ∧
    Instr.extLdHXhl.form = .ld .h (.mem (.ind .xhl)) ∧ (busy 0 []).sourceAdmitted (.mem (.ind .xhl)) = true := by decide

theorem witness_StoreResult :
    (Instr.strAccAbs 0xFF 0xFF).form = .str .acc (.abs 0xFF 0xFF) ∧
    writeAdmitted ((busy 0 []).kindAt (effAddr (.abs 0xFF 0xFF) (busy 0 []))) = true ∧
    Instr.extStrAccXhl.form = .str .acc (.ind .xhl) ∧
    writeAdmitted ((busy 0 []).kindAt (effAddr (.ind .xhl) (busy 0 []))) = true := by decide

theorem witness_MoveResult :
    Instr.movSpAcc.form = .mov .sp .acc ∧ Instr.extMovHlXhl.form = .movPair .hl .xhl := ⟨rfl, rfl⟩

theorem witness_PushSixteenResult :
    Instr.extPshXhl.form = .pshPair .xhl ∧ (0x4000#16) = (busy 0 []).regs.getPair .xhl ∧ Instr.extPshPc.form = .pshPc ∧
    (0x0000#16) = (busy 0xFFFF []).pc + 1#16 ∧
    writeAdmitted ((busy 0xFFFF []).kindAt ((busy 0xFFFF []).stackAddr (busy 0xFFFF []).regs.sp)) = true ∧
    writeAdmitted ((busy 0xFFFF []).kindAt ((busy 0xFFFF []).stackAddr ((busy 0xFFFF []).regs.sp + 1#8))) = true := by decide

theorem witness_PopSixteenResult :
    Instr.extPopHl.form = .popPair .hl ∧ Instr.extPopPc.form = .popPc ∧
    readAdmitted (State.reset.kindAt (State.reset.stackAddr (State.reset.regs.sp - 1#8))) = true ∧
    readAdmitted (State.reset.kindAt (State.reset.stackAddr (State.reset.regs.sp - 2#8))) = true := by decide

theorem witness_StuckNamesTheCell :
    exec (.addZp 9) (mapped State.reset 5 9 .absent) = .fault (.stuckAbsent 9) ∧
    exec (.strAccZp 9) (mapped State.reset 5 9 .absent) = .fault (.stuckAbsent 9) ∧
    exec (.strAccZp 5) (mapped State.reset 5 9 .rom) = .fault (.stuckRomWrite 5) := ⟨rfl, rfl, rfl⟩

theorem witness_NoStepWithoutAFetch :
    { State.reset with run := .halted }.run = .halted ∧ State.reset.run = .running ∧
    (mapped State.reset 0 0 .device).run = .running ∧
    (mapped State.reset 0 0 .device).kindAt (mapped State.reset 0 0 .device).pc = .device ∧
    (mapped State.reset 0 0 .absent).kindAt (mapped State.reset 0 0 .absent).pc = .absent := by decide

/-- The first stack cell is 0x01FF, which is ram; the second is 0x0100, which is rom. -/
theorem witness_CallIsAllOrNothing :
    (Instr.jsrC 0 0).form = .jsr .c 0 0 ∧ condHolds .c (mapped (busy 0 []) 0x100 0x100 .rom).flags = true ∧
    writeAdmitted ((mapped (busy 0 []) 0x100 0x100 .rom).kindAt 0x01FF) = true ∧
    writeAdmitted ((mapped (busy 0 []) 0x100 0x100 .rom).kindAt
      ((mapped (busy 0 []) 0x100 0x100 .rom).stackAddr ((mapped (busy 0 []) 0x100 0x100 .rom).regs.sp + 1#8))) = false := by decide

theorem witness_RegisterFrame :
    (∃ t, exec .popAcc (busy 0 []) = .next t) ∧ writesReg Instr.popAcc.form .h = false ∧
    (∃ t, exec .cmpXh (busy 0 []) = .next t) ∧ writesReg Instr.cmpXh.form .acc = false := ⟨⟨_, rfl⟩, rfl, ⟨_, rfl⟩, rfl⟩

theorem witness_FlagWriters :
    (∃ t, exec .incAcc (busy 0 []) = .next t) ∧ Instr.incAcc.form = .accOp .inc ∧
    (∃ t, exec (.cmpImm 0xFF) (busy 0 []) = .next t) ∧ (Instr.cmpImm 0xFF).form = .alu .cmp (.imm 0xFF) ∧
    (∃ t, exec .clc (busy 0 []) = .next t) ∧ (∀ op src, Instr.clc.form ≠ .alu op src) ∧ ∀ op, Instr.clc.form ≠ .accOp op :=
  ⟨⟨_, rfl⟩, rfl, ⟨_, rfl⟩, rfl, ⟨_, rfl⟩, by simp [Instr.form], by simp [Instr.form]⟩

theorem witness_FlagReaders :
    readsFlag (Instr.jmpZ 0 0).form .c = false ∧ readsFlag Instr.addXh.form .c = false ∧ readsFlag Instr.adcXh.form .z = false := by decide

/-- A store to ram, which leaves other bytes; and a store to a device, which leaves the byte at its own address. -/
theorem witness_MemoryFrame :
    (∃ t, exec (.strAccZp 7) State.reset = .next t) ∧ 8 ∉ dataWrites (Instr.strAccZp 7).form State.reset ∧
    (∃ t, exec (.strAccZp 7) (mapped State.reset 7 7 .device) = .next t) ∧
    7 ∈ dataWrites (Instr.strAccZp 7).form (mapped State.reset 7 7 .device) ∧
    (mapped State.reset 7 7 .device).kindAt 7 ≠ .ram := ⟨⟨_, rfl⟩, by decide, ⟨_, rfl⟩, by decide, by decide⟩

theorem witness_ProgramCounterWriters :
    (∃ t, exec (.addImm 1) (busy 0xFFFF []) = .next t) ∧ mayJump (Instr.addImm 1).form = false := ⟨⟨_, rfl⟩, rfl⟩

theorem witness_LatchLaw :
    (∃ t, step (cpu 0xFFFF [0x30]) = .next t) ∧ (cpu 0xFFFF [0x30]).ready .ext ∧ ∃ t, step (cpuExt 0 [0x30]) = .next t :=
  ⟨⟨_, rfl⟩, ⟨rfl, rfl, holds_of _ _ (by decide)⟩, ⟨_, rfl⟩⟩

theorem witness_OnlyHaltHalts :
    ∃ t, step (cpu 0xFFFF [0x38]) = .next t ∧ t.run = .halted ∧ (cpu 0xFFFF [0x38]).ready .hlt :=
  ⟨_, rfl, rfl, ⟨rfl, rfl, holds_of _ _ (by decide)⟩⟩

theorem witness_InterruptFlagOverAStep :
    ∃ t, step { cpu 0 [0x00] with iDraws := [true] } = .next t ∧ ({ cpu 0 [0x00] with iDraws := [true] } : State).ready .nin :=
  ⟨_, rfl, ⟨rfl, rfl, holds_of _ _ (by decide)⟩⟩

theorem witness_StepKeepsTheConfiguration :
    ∃ t, step (mapped (cpu 0 [0xB5, 0x80]) 0x80 0x80 .device) = .next t ∧ t.deviceLog = [(0x80, 0x00#8)] := ⟨_, rfl, by decide⟩

theorem witness_EveryStepKeepsTheInvariant : State.reset.Inv ∧ ∃ t, step State.reset = .next t :=
  ⟨⟨by decide, by decide, by decide, by decide⟩, ⟨_, rfl⟩⟩

theorem witness_PrefixThenExtended :
    (busy 0xFFFF [0x30, 0x27]).run = .running ∧ (busy 0xFFFF [0x30, 0x27]).ext = false ∧ Instr.extPshHl.mode = .ext ∧
    (busy 0xFFFF [0x30, 0x27]).holds (0x30#8 :: encode .extPshHl) := ⟨rfl, rfl, rfl, holds_of _ _ (by decide)⟩

theorem witness_CallThenReturn :
    (busy 0xFFFD []).mem.wf = true ∧ (busy 0xFFFD []).kindAt ((busy 0xFFFD []).stackAddr (busy 0xFFFD []).regs.sp) = .ram ∧
    (busy 0xFFFD []).kindAt ((busy 0xFFFD []).stackAddr ((busy 0xFFFD []).regs.sp + 1#8)) = .ram := by decide

theorem witness_PairPushIsTwoPushes :
    (busy 0 []).cfg.stackHighFirst = true ∧ ∃ t, exec .extPshXhl (busy 0 []) = .next t := ⟨rfl, ⟨_, rfl⟩⟩

theorem witness_FrontPanelRules : State.reset.run = .running ∧ { State.reset with run := .halted }.run = .halted := ⟨rfl, rfl⟩

theorem witness_PrefixCost : Instr.extPopPc.mode = .ext := rfl

end Sys2Proof.Tests
end

section
/-! PROOF. The conditions and the registers (10_state.md R30, R52). -/

namespace Sys2Proof.Proofs
open Sys2Proof.Machine

/-- Settles O14: each row of the table is one case of `condHolds`, so each conjunct is that case's equation. -/
theorem conditionTable : Obligations.ConditionTable := by
  intro f
  exact ⟨rfl, rfl, rfl, rfl, rfl, rfl, rfl, rfl⟩

/-- Settles O15: the numbering is read off `Reg.index`, and what a write leaves in each register is `Regs.get_set`. -/
theorem registersHoldWhatIsWritten : Obligations.RegistersHoldWhatIsWritten := by
  have numbering : [Reg.xh, Reg.xl, Reg.yh, Reg.yl, Reg.h, Reg.l, Reg.acc, Reg.sp].map Reg.index = [0, 1, 2, 3, 4, 5, 6, 7] := rfl
  exact ⟨numbering, Regs.get_set⟩

end Sys2Proof.Proofs
end

section
/-! PROOF. The fields of the opcode byte and the length of an instruction (30_encoding.md R101, R106). -/

namespace Sys2Proof.Proofs

/-! Every index a row is made of fits the three bits of the row. -/

theorem reg_index_lt (r : Reg) : r.index < 8 := by cases r <;> decide

theorem pair_index_lt (p : Pair) : p.index < 3 := by cases p <;> decide

theorem cond_index_lt (k : Cond) : k.index < 8 := by cases k <;> decide

theorem control_index_lt (k : Control) : k.index < 8 := by cases k <;> decide

theorem accOp_index_lt (o : AccOp) : o.index < 8 := by cases o <;> decide

theorem aluOp_index_lt (op : AluOp) : op.index < 8 := by cases op <;> decide

theorem movPairRow_lt (s d : Pair) : movPairRow s d < 8 := by cases s <;> cases d <;> decide

/-- The block is bits 7:6 of the opcode byte (R101). -/
theorem opcodeByte_block {block row col : Nat} (hb : block < 4) (hr : row < 8) (hc : col < 8) :
    (opcodeByte block row col).toNat / 64 = block := by
  simp only [opcodeByte, BitVec.toNat_ofNat]
  omega

/-- The column is bits 2:0 of the opcode byte (R101). -/
theorem opcodeByte_col (block row : Nat) {col : Nat} (hc : col < 8) : (opcodeByte block row col).toNat % 8 = col := by
  simp only [opcodeByte, BitVec.toNat_ofNat]
  omega

/-- Block and column of a form, as `Form.opcode` places its family (R110 to R114). -/
def formBlockCol : Form → Nat × Nat
  | .control _ => (0, 0)
  | .jmp _ _ _ => (0, 1)
  | .jsr _ _ _ => (0, 2)
  | .rtn _ => (0, 3)
  | .psh _ => (0, 4)
  | .pop _ => (0, 5)
  | .incPair _ => (0, 6)
  | .decPair _ => (0, 6)
  | .accOp _ => (0, 7)
  | .alu _ src => aluBlockCol src
  | .ld _ src => ldBlockCol src
  | .str _ p => strBlockCol p
  | .mov s _ => (3, s.index)
  | .movPair _ _ => (0, 6)
  | .pshPair _ => (0, 7)
  | .popPair _ => (0, 7)
  | .pshPc => (0, 7)
  | .popPc => (0, 7)

theorem exists_row_opcode_eq (f : Form) :
    ∃ row < 8, f.opcode = opcodeByte (formBlockCol f).1 row (formBlockCol f).2 := by
  cases f with
  | control k => exact ⟨_, control_index_lt k, rfl⟩
  | jmp k b1 b2 => exact ⟨_, cond_index_lt k, rfl⟩
  | jsr k b1 b2 => exact ⟨_, cond_index_lt k, rfl⟩
  | rtn k => exact ⟨_, cond_index_lt k, rfl⟩
  | psh r => exact ⟨_, reg_index_lt r, rfl⟩
  | pop r => exact ⟨_, reg_index_lt r, rfl⟩
  | incPair p => exact ⟨2 * p.index, by have := pair_index_lt p; omega, rfl⟩
  | decPair p => exact ⟨2 * p.index + 1, by have := pair_index_lt p; omega, rfl⟩
  | accOp o => exact ⟨_, accOp_index_lt o, rfl⟩
  | alu op src => exact ⟨_, aluOp_index_lt op, rfl⟩
  | ld r src => exact ⟨_, reg_index_lt r, rfl⟩
  | str r p => exact ⟨_, reg_index_lt r, rfl⟩
  | mov s d => exact ⟨_, reg_index_lt d, rfl⟩
  | movPair s d => exact ⟨_, movPairRow_lt s d, rfl⟩
  | pshPair p => exact ⟨2 * p.index, by have := pair_index_lt p; omega, rfl⟩
  | popPair p => exact ⟨2 * p.index + 1, by have := pair_index_lt p; omega, rfl⟩
  | pshPc => exact ⟨6, by decide, rfl⟩
  | popPc => exact ⟨7, by decide, rfl⟩

/-- The column of a register operand is 4 plus its index, so the bound needs that only the first four registers are listed. -/
theorem aluBlockCol_lt {op : AluOp} {src : Source} (h : (Form.alu op src).wf = true) :
    (aluBlockCol src).1 < 4 ∧ (aluBlockCol src).2 < 8 := by
  match src with
  | .mem (.abs _ _) | .mem (.zp _) | .mem (.ind .xhl) | .mem (.ind .yhl) | .mem (.ind .hl) | .imm _ => simp [aluBlockCol]
  | .reg r => cases r <;> simp_all [Form.wf, aluBlockCol, Reg.index]

theorem ldBlockCol_lt (src : Source) : (ldBlockCol src).1 < 4 ∧ (ldBlockCol src).2 < 8 := by
  unfold ldBlockCol
  split <;> decide

theorem strBlockCol_lt (p : Place) : (strBlockCol p).1 < 4 ∧ (strBlockCol p).2 < 8 := by
  unfold strBlockCol
  split <;> decide

theorem formBlockCol_lt {f : Form} (h : f.wf = true) : (formBlockCol f).1 < 4 ∧ (formBlockCol f).2 < 8 := by
  cases f with
  | alu op src => exact aluBlockCol_lt h
  | ld r src => exact ldBlockCol_lt src
  | str r p => exact strBlockCol_lt p
  | mov s d => exact ⟨by simp [formBlockCol], reg_index_lt s⟩
  | _ => simp [formBlockCol]

theorem opcode_block {f : Form} (h : f.wf = true) : f.opcode.toNat / 64 = (formBlockCol f).1 := by
  obtain ⟨row, hrow, heq⟩ := exists_row_opcode_eq f
  obtain ⟨hblock, hcol⟩ := formBlockCol_lt h
  rw [heq, opcodeByte_block hblock hrow hcol]

theorem opcode_col {f : Form} (h : f.wf = true) : f.opcode.toNat % 8 = (formBlockCol f).2 := by
  obtain ⟨row, -, heq⟩ := exists_row_opcode_eq f
  have hcol := (formBlockCol_lt h).2
  rw [heq, opcodeByte_col _ _ hcol]

/-- The table of R106. -/
def tableLength (m : Mode) (block col : Nat) : Nat :=
  if m = .ext ∨ block = 3 then 1
  else if block = 0 then (if col = 1 ∨ col = 2 then 3 else 1)
  else if col = 0 ∨ (block = 2 ∧ col = 4) then 3
  else if col = 1 ∨ col = 3 ∨ (block = 2 ∧ col = 5) then 2
  else 1

theorem formBlockCol_of_ext (f : Form) (h : f.mode = .ext) : (formBlockCol f).1 = 0 := by
  cases f with
  | alu op src =>
    match src with
    | .mem (.ind .xhl) | .mem (.ind .yhl) => rfl
  | ld r src =>
    match src with
    | .mem (.ind .xhl) | .mem (.ind .yhl) => rfl
  | str r p =>
    match p with
    | .ind .xhl | .ind .yhl => rfl
  | movPair | pshPair | popPair | pshPc | popPc => rfl
  | _ => cases h

theorem operandBytes_length (f : Form) :
    f.operandBytes.length + 1 = tableLength f.mode (formBlockCol f).1 (formBlockCol f).2 := by
  cases f with
  | alu op src =>
    match src with
    | .mem (.abs _ _) | .mem (.zp _) | .mem (.ind .xhl) | .mem (.ind .yhl) | .mem (.ind .hl) | .imm _ => rfl
    | .reg r => cases r <;> rfl
  | ld r src =>
    match src with
    | .mem (.abs _ _) | .mem (.zp _) | .mem (.ind .xhl) | .mem (.ind .yhl) | .mem (.ind .hl) | .imm _ | .reg _ => rfl
  | str r p =>
    match p with
    | .abs _ _ | .zp _ | .ind .xhl | .ind .yhl | .ind .hl => rfl
  | _ => rfl

/-- Settles O3: the fields of the opcode byte are the block and column of the instruction's family (`opcode_block`,
`opcode_col`), and the family alone says how many operand bytes there are (`operandBytes_length`). -/
theorem lengthIsFixedByTheOpcode : Obligations.LengthIsFixedByTheOpcode := by
  intro i block col
  have hblock : block = (formBlockCol i.form).1 := opcode_block (Machine.form_wf i)
  have hcol : col = (formBlockCol i.form).2 := opcode_col (Machine.form_wf i)
  rw [hblock, hcol]
  exact ⟨formBlockCol_of_ext i.form, operandBytes_length i.form⟩

end Sys2Proof.Proofs
end

section
/-! PROOF. The cost of `EXT` and of an extended instruction written with it (70_reset_and_hazards.md R572). -/

namespace Sys2Proof.Proofs
open Sys2Proof.Machine

theorem length_of_ext {i : Instr} (h : i.mode = .ext) : i.length = 1 := by
  calc i.length
      = tableLength i.mode (formBlockCol i.form).1 (formBlockCol i.form).2 := operandBytes_length i.form
    _ = 1 := by simp [tableLength, h]

theorem writtenBytes_of_ext {i : Instr} (h : i.mode = .ext) : writtenBytes i = encode .ext ++ encode i := by
  simp [writtenBytes, h]

theorem writtenCycles_of_ext {i : Instr} (h : i.mode = .ext) : writtenCycles i = instrCycles .ext + instrCycles i := by
  simp [writtenCycles, h]

/-- Settles O60: what a program writes is `EXT` and then the extended row, so its bytes and its cycles are the sums of theirs. -/
theorem prefixCost : Obligations.PrefixCost := by
  have extCycles : instrCycles .ext = 2 := rfl
  have extLength : (encode .ext).length = 1 := rfl
  refine ⟨extCycles, rfl, fun i h => ?_⟩
  have rowLength : (encode i).length = 1 := length_of_ext h
  refine ⟨rowLength, ?_, ?_⟩
  · rw [writtenBytes_of_ext h, List.length_append, extLength, rowLength]
  · rw [writtenCycles_of_ext h, extCycles, Nat.add_comm]

end Sys2Proof.Proofs
end

section
/-! PROOF. Decoding and encoding (30_encoding.md R101, R102, R107, R109 to R116): a cell of an opcode matrix reads an
instruction exactly when the cell's mode and byte are the instruction's. -/

namespace Sys2Proof.Proofs

/-- The instruction a cell makes of operand bytes, if they are as many as its format takes (R102). -/
def readEntry (e : Entry) (ops : List Byte) : Option Instr :=
  match e, ops with
  | .f1 i, [] => some i
  | .f2 mk, [b1] => some (mk b1)
  | .f3 mk, [b1, b2] => some (mk b1 b2)
  | _, _ => none

@[simp] theorem readEntry_unlisted (ops : List Byte) : readEntry .unlisted ops = none := rfl

@[simp] theorem readEntry_f1_eq_some_iff {j i : Instr} {ops : List Byte} :
    readEntry (.f1 j) ops = some i ↔ ops = [] ∧ j = i := by
  rcases ops with _ | ⟨b1, ops⟩ <;> simp [readEntry]

@[simp] theorem readEntry_f2_eq_some_iff {mk : Byte → Instr} {ops : List Byte} {i : Instr} :
    readEntry (.f2 mk) ops = some i ↔ ∃ b1, ops = [b1] ∧ mk b1 = i := by
  rcases ops with _ | ⟨b1, _ | ⟨b2, ops⟩⟩ <;> simp [readEntry]

@[simp] theorem readEntry_f3_eq_some_iff {mk : Byte → Byte → Instr} {ops : List Byte} {i : Instr} :
    readEntry (.f3 mk) ops = some i ↔ ∃ b1 b2, ops = [b1, b2] ∧ mk b1 b2 = i := by
  rcases ops with _ | ⟨b1, _ | ⟨b2, _ | ⟨b3, ops⟩⟩⟩ <;> simp [readEntry]

theorem decodeBytes_cons_eq_ok_iff (m : Mode) (op : Byte) (tail rest : List Byte) (i : Instr) :
    decodeBytes m (op :: tail) = .ok (i, rest) ↔ ∃ ops, tail = ops ++ rest ∧ readEntry (entryAt m op) ops = some i := by
  simp only [decodeBytes]
  cases entryAt m op with
  | unlisted => simp
  | f1 j => simp [and_comm]
  | f2 mk => rcases tail with _ | ⟨b1, tail⟩ <;> simp [and_comm]
  | f3 mk => rcases tail with _ | ⟨b1, _ | ⟨b2, tail⟩⟩ <;> simp [and_comm]

/-- What the cell reads is listed in this mode under this opcode byte. -/
def EntryFits (m : Mode) (op : Byte) : Entry → Prop
  | .unlisted => True
  | .f1 i => i.mode = m ∧ encode i = [op]
  | .f2 mk => (∀ b1, (mk b1).mode = m) ∧ ∀ b1, encode (mk b1) = [op, b1]
  | .f3 mk => (∀ b1 b2, (mk b1 b2).mode = m) ∧ ∀ b1 b2, encode (mk b1 b2) = [op, b1, b2]

/-- The cells from column `col` on of a row fit their places. -/
def RowFits (m : Mode) (block row col : Nat) : List Entry → Prop
  | [] => True
  | e :: es => EntryFits m (opcodeByte block row col) e ∧ RowFits m block row (col + 1) es

/-- The rows from `row` on of a matrix fit their places. -/
def RowsFit (m : Mode) (block row : Nat) : List (List Entry) → Prop
  | [] => True
  | es :: rows => RowFits m block row 0 es ∧ RowsFit m block (row + 1) rows

theorem RowFits.cell {m : Mode} {block row col : Nat} {es : List Entry} (h : RowFits m block row col es) (k : Nat) :
    EntryFits m (opcodeByte block row (col + k)) (es.getD k .unlisted) := by
  induction es generalizing col k with
  | nil => trivial
  | cons e es ih =>
    cases k with
    | zero => exact h.1
    | succ k =>
      have hcell := ih h.2 k
      rwa [Nat.add_assoc, Nat.add_comm 1 k] at hcell

theorem RowsFit.row {m : Mode} {block row : Nat} {rows : List (List Entry)} (h : RowsFit m block row rows) (k : Nat) :
    RowFits m block (row + k) 0 (rows.getD k []) := by
  induction rows generalizing row k with
  | nil => trivial
  | cons es rows ih =>
    cases k with
    | zero => exact h.1
    | succ k =>
      have hrow := ih h.2 k
      rwa [Nat.add_assoc, Nat.add_comm 1 k] at hrow

/-! Each matrix, cell by cell: the encoding of the instruction written there is computed and is the cell's place. -/

theorem block0_fits : RowsFit .base 0 0 block0 := by
  and_intros <;> intros <;> trivial

theorem block1_fits : RowsFit .base 1 0 block1 := by
  and_intros <;> intros <;> trivial

theorem block2_fits : RowsFit .base 2 0 block2 := by
  and_intros <;> intros <;> trivial

theorem block3_fits : RowsFit .base 3 0 block3 := by
  and_intros <;> trivial

theorem extBlock_fits : RowsFit .ext 0 0 extBlock := by
  and_intros <;> trivial

theorem blockMatrix_fits (m : Mode) {block : Nat} (h : block < 4) : RowsFit m block 0 (blockMatrix m block) := by
  match m, block, h with
  | .base, 0, _ => exact block0_fits
  | .base, 1, _ => exact block1_fits
  | .base, 2, _ => exact block2_fits
  | .base, 3, _ => exact block3_fits
  | .ext, 0, _ => exact extBlock_fits
  | .ext, _ + 1, _ => trivial

/-- A byte is put together from its block, row and column (R101). -/
theorem opcodeByte_fields (op : Byte) : opcodeByte (op.toNat / 64) (op.toNat / 8 % 8) (op.toNat % 8) = op := by
  apply BitVec.eq_of_toNat_eq
  simp only [opcodeByte, BitVec.toNat_ofNat]
  have := op.isLt
  omega

theorem entryAt_fits (m : Mode) (op : Byte) : EntryFits m op (entryAt m op) := by
  have hblock : op.toNat / 64 < 4 := by have := op.isLt; omega
  have hcell := ((blockMatrix_fits m hblock).row (op.toNat / 8 % 8)).cell (op.toNat % 8)
  rwa [Nat.zero_add, Nat.zero_add, opcodeByte_fields] at hcell

theorem readEntry_of_fits {m : Mode} {op : Byte} {e : Entry} {ops : List Byte} {i : Instr} (hfits : EntryFits m op e)
    (h : readEntry e ops = some i) : i.mode = m ∧ encode i = op :: ops := by
  match e, ops, h with
  | .f1 _, [], rfl => exact hfits
  | .f2 _, [b1], rfl => exact ⟨hfits.1 b1, hfits.2 b1⟩
  | .f3 _, [b1, b2], rfl => exact ⟨hfits.1 b1 b2, hfits.2 b1 b2⟩

/-- The cell at an instruction's mode and opcode byte is its own: what the lemmas of `Laws.RoundTrip` say one by one, computed
at each of the 280 places for the cell alone. -/
theorem readEntry_opcode (i : Instr) : readEntry (entryAt i.mode i.form.opcode) i.form.operandBytes = some i := by
  cases i <;> simp only [Instr.form, Form.opcode, aluBlockCol, ldBlockCol, strBlockCol] <;> rfl

/-- The one statement that joins the matrices and the fields. -/
theorem readEntry_eq_some_iff (m : Mode) (op : Byte) (ops : List Byte) (i : Instr) :
    readEntry (entryAt m op) ops = some i ↔ i.mode = m ∧ encode i = op :: ops := by
  constructor
  · exact readEntry_of_fits (entryAt_fits m op)
  · rintro ⟨rfl, hencode⟩
    obtain ⟨rfl, rfl⟩ := List.cons.inj hencode
    exact readEntry_opcode i

/-- Settles O1: the decoder splits the bytes at a cell's format (`decodeBytes_cons_eq_ok_iff`), and the cell reads the
instruction exactly when it is the instruction's own (`readEntry_eq_some_iff`). -/
theorem decodeIffEncodes : Obligations.DecodeIffEncodes := by
  intro m bs rest i
  cases bs with
  | nil => simp [decodeBytes, encode]
  | cons op tail =>
    simp only [decodeBytes_cons_eq_ok_iff, readEntry_eq_some_iff, encode, List.cons.injEq, List.cons_append]
    constructor
    · rintro ⟨ops, rfl, hmode, rfl, rfl⟩
      exact ⟨hmode, rfl, rfl⟩
    · rintro ⟨hmode, rfl, rfl⟩
      exact ⟨i.form.operandBytes, rfl, hmode, rfl, rfl⟩

theorem eq_of_mode_of_encode {i j : Instr} (hmode : i.mode = j.mode) (hencode : encode i = encode j) : i = j := by
  have hi := readEntry_opcode i
  have hj := readEntry_opcode j
  obtain ⟨hop, hops⟩ := List.cons.inj hencode
  rw [hmode, hop, hops, hj] at hi
  exact (Option.some.inj hi).symm

theorem form_injective {i j : Instr} (h : i.form = j.form) : i = j :=
  eq_of_mode_of_encode (congrArg Form.mode h) (by rw [encode, encode, h])

/-- The instruction of a form, looked up at the form's place in the matrices. -/
def formInstr (f : Form) : Option Instr := readEntry (entryAt f.mode f.opcode) f.operandBytes

theorem formInstr_alu (op : AluOp) {src : Source} (h : (Form.alu op src).wf = true) :
    (formInstr (.alu op src)).map Instr.form = some (.alu op src) := by
  simp only [formInstr, Form.opcode]
  match src with
  | .mem (.abs _ _) | .mem (.zp _) | .mem (.ind .xhl) | .mem (.ind .yhl) | .mem (.ind .hl) | .imm _ =>
    simp only [aluBlockCol]
    cases op <;> rfl
  | .reg r => cases r <;> cases h <;> cases op <;> rfl

theorem formInstr_ld {r : Reg} {src : Source} (h : (Form.ld r src).wf = true) :
    (formInstr (.ld r src)).map Instr.form = some (.ld r src) := by
  simp only [formInstr, Form.opcode]
  match src with
  | .mem (.abs _ _) | .mem (.zp _) | .imm _ =>
    simp only [ldBlockCol]
    cases r <;> rfl
  | .mem (.ind .xhl) | .mem (.ind .yhl) | .mem (.ind .hl) => cases r <;> cases h <;> rfl

theorem formInstr_str {r : Reg} {p : Place} (h : (Form.str r p).wf = true) :
    (formInstr (.str r p)).map Instr.form = some (.str r p) := by
  simp only [formInstr, Form.opcode]
  match p with
  | .abs _ _ | .zp _ =>
    simp only [strBlockCol]
    cases r <;> rfl
  | .ind .xhl | .ind .yhl | .ind .hl => cases r <;> cases h <;> rfl

/-- A listed form stands in the matrices at its own place. -/
theorem formInstr_of_wf {f : Form} (h : f.wf = true) : (formInstr f).map Instr.form = some f := by
  cases f with
  | control k => cases k <;> rfl
  | jmp k b1 b2 =>
    simp only [formInstr, Form.opcode]
    cases k <;> rfl
  | jsr k b1 b2 =>
    simp only [formInstr, Form.opcode]
    cases k <;> rfl
  | rtn k => cases k <;> cases h <;> rfl
  | psh r => cases r <;> cases h <;> rfl
  | pop r => cases r <;> cases h <;> rfl
  | incPair p => cases p <;> rfl
  | decPair p => cases p <;> rfl
  | accOp o => cases o <;> rfl
  | alu op src => exact formInstr_alu op h
  | ld r src => exact formInstr_ld h
  | str r p => exact formInstr_str h
  | mov s d => cases s <;> cases d <;> cases h <;> rfl
  | movPair s d => cases s <;> cases d <;> cases h <;> rfl
  | pshPair p => cases p <;> rfl
  | popPair p => cases p <;> rfl
  | pshPc => rfl
  | popPc => rfl

/-- Settles O2: a listed form is found at its place in the matrices, and a form fixes the encoding, which fixes the
instruction. -/
theorem listedFormsAreTheInstructions : Obligations.ListedFormsAreTheInstructions := by
  refine ⟨fun f => ⟨fun h => ?_, ?_⟩, fun i j => form_injective⟩
  · obtain ⟨i, -, hi⟩ := Option.map_eq_some_iff.mp (formInstr_of_wf h)
    exact ⟨i, hi⟩
  · rintro ⟨i, rfl⟩
    exact Machine.form_wf i

/-- Settles O6: the decoder run on each word. -/
theorem sampleWordsDecode : Obligations.SampleWordsDecode :=
  ⟨rfl, rfl, rfl, rfl, rfl, rfl, rfl, rfl, rfl, rfl, rfl⟩

end Sys2Proof.Proofs
end

section
/-! PROOF. What stops an instruction: the first of its data accesses that is not admitted (20_memory.md R73,
60_exceptions.md R520, R521). -/

namespace Sys2Proof.Proofs
open Sys2Proof.Machine

/-- The fault of a data read, if it is not admitted. -/
def readFault (s : State) (a : Addr) : Option Fault :=
  if readAdmitted (s.kindAt a) then none else some (.stuckAbsent a)

/-- The fault of a write, if it is not admitted. -/
def storeFault (s : State) (a : Addr) : Option Fault :=
  if writeAdmitted (s.kindAt a) then none else some (writeFault (s.kindAt a) a)

/-- The fault of the first data access of a form that is not admitted. -/
def accessFault (f : Form) (s : State) : Option Fault :=
  ((dataReads f s).findSome? (readFault s)).or ((dataWrites f s).findSome? (storeFault s))

/-- The outcome of an instruction that stops on this fault, or ends in this state if there is none. -/
def stopOr (e : Option Fault) (t : State) : Result :=
  match e with
  | some e => .fault e
  | none => .next t

theorem readFault_eq_some_iff {s : State} {a : Addr} {e : Fault} :
    readFault s a = some e ↔ s.kindAt a = .absent ∧ e = .stuckAbsent a := by
  unfold readFault
  cases s.kindAt a <;> simp [readAdmitted, eq_comm]

theorem storeFault_eq_some_iff {s : State} {a : Addr} {e : Fault} :
    storeFault s a = some e ↔
      (s.kindAt a = .absent ∧ e = .stuckAbsent a) ∨ (s.kindAt a = .rom ∧ e = .stuckRomWrite a) := by
  unfold storeFault
  cases s.kindAt a <;> simp [writeAdmitted, writeFault, eq_comm]

theorem accessFault_eq_none_iff (f : Form) (s : State) : accessFault f s = none ↔ dataAdmitted f s = true := by
  simp [accessFault, dataAdmitted, readFault, storeFault]

theorem dataAdmitted_of_no_access {f : Form} {s : State} (hreads : dataReads f s = []) (hwrites : dataWrites f s = []) :
    dataAdmitted f s = true := by
  simp [dataAdmitted, hreads, hwrites]

/-- The two writes of a 16-bit push (20_memory.md R78). -/
theorem dataAdmitted_of_push16 {f : Form} {s : State} (hreads : dataReads f s = [])
    (hwrites : dataWrites f s = [s.stackAddr s.regs.sp, s.stackAddr (s.regs.sp + 1#8)])
    (h1 : writeAdmitted (s.kindAt (s.stackAddr s.regs.sp)) = true)
    (h2 : writeAdmitted (s.kindAt (s.stackAddr (s.regs.sp + 1#8))) = true) : dataAdmitted f s = true := by
  simp [dataAdmitted, hreads, hwrites, h1, h2]

/-- The two reads of a 16-bit pop (20_memory.md R79). -/
theorem dataAdmitted_of_pop16 {f : Form} {s : State}
    (hreads : dataReads f s = [s.stackAddr (s.regs.sp - 1#8), s.stackAddr (s.regs.sp - 2#8)]) (hwrites : dataWrites f s = [])
    (h1 : readAdmitted (s.kindAt (s.stackAddr (s.regs.sp - 1#8))) = true)
    (h2 : readAdmitted (s.kindAt (s.stackAddr (s.regs.sp - 2#8))) = true) : dataAdmitted f s = true := by
  simp [dataAdmitted, hreads, hwrites, h1, h2]

/-- A 16-bit push stops on the first of its two writes that is not admitted. -/
theorem push16_stopOr (v : Addr) (s : State) (after : State → State) :
    (match push16 v s with
      | .error f => .fault f
      | .ok t => .next (after t)) =
      stopOr ([s.stackAddr s.regs.sp, s.stackAddr (s.regs.sp + 1#8)].findSome? (storeFault s)) (after (s.pushed16 v)) := by
  rw [push16_eq]
  simp only [List.findSome?, storeFault]
  cases writeAdmitted (s.kindAt (s.stackAddr s.regs.sp)) <;>
    cases writeAdmitted (s.kindAt (s.stackAddr (s.regs.sp + 1#8))) <;> rfl

/-- A 16-bit pop stops on the first of its two reads that is not admitted. -/
theorem pop16_stopOr (s : State) (after : Addr → State → State) :
    (match pop16 s with
      | .error f => .fault f
      | .ok (v, t) => .next (after v t)) =
      stopOr (([s.stackAddr (s.regs.sp - 1#8), s.stackAddr (s.regs.sp - 2#8)].findSome? (readFault s)).or none)
        (after s.popped16 s.afterPop16) := by
  rw [pop16_eq]
  simp only [List.findSome?, readFault]
  cases readAdmitted (s.kindAt (s.stackAddr (s.regs.sp - 1#8))) <;>
    cases readAdmitted (s.kindAt (s.stackAddr (s.regs.sp - 2#8))) <;> rfl

theorem findSome?_sourceReads (s : State) (src : Source) :
    (sourceReads s src).findSome? (readFault s) =
      if s.sourceAdmitted src then none else some (.stuckAbsent ((sourceReads s src).headD 0)) := by
  cases src with
  | mem p =>
    by_cases h : readAdmitted (s.kindAt (effAddr p s)) = true <;>
      simp [sourceReads, State.sourceAdmitted, readFault, h]
  | imm nn => rfl
  | reg r => rfl

/-- An operand stops the instruction if it is a place whose read is not admitted. -/
theorem operandByte_stopOr (src : Source) (s : State) (after : Byte → State → State) :
    (match operandByte src s with
      | .error f => .fault f
      | .ok (b, t) => .next (after b t)) =
      stopOr (((sourceReads s src).findSome? (readFault s)).or none) (after (s.sourceValue src) (s.afterSource src)) := by
  rw [operandByte_eq, findSome?_sourceReads]
  cases s.sourceAdmitted src <;> rfl

/-- All a form can do: it stops on the first data access that is not admitted, and ends in `formNext` if there is none. -/
theorem formExec_eq (f : Form) (s : State) : formExec f s = stopOr (accessFault f s) (formNext f s) := by
  cases f with
  | control k => cases k <;> rfl
  | jmp k b1 b2 => rfl
  | jsr k b1 b2 =>
    simp only [formExec, formNext, callIf, accessFault, dataReads, dataWrites]
    by_cases hc : condHolds k s.flags = true
    · rw [if_pos hc, if_pos hc, if_pos hc]
      exact push16_stopOr (s.pc + 3#16) s (·.setPc (absOperand s.cfg b1 b2))
    · rw [if_neg hc, if_neg hc, if_neg hc]
      rfl
  | rtn k =>
    simp only [formExec, formNext, returnIf, accessFault, dataReads, dataWrites]
    by_cases hc : condHolds k s.flags = true
    · rw [if_pos hc, if_pos hc, if_pos hc]
      exact pop16_stopOr s (fun v t => t.setPc v)
    · rw [if_neg hc, if_neg hc, if_neg hc]
      rfl
  | psh r =>
    simp only [formExec, formNext, pushReg, push8_eq, accessFault, dataReads, dataWrites, List.findSome?, storeFault]
    cases writeAdmitted (s.kindAt (s.stackAddr s.regs.sp)) <;> rfl
  | pop r =>
    simp only [formExec, formNext, popReg, pop8_eq, accessFault, dataReads, dataWrites, List.findSome?, readFault]
    cases readAdmitted (s.kindAt (s.stackAddr (s.regs.sp - 1#8))) <;> rfl
  | incPair p => rfl
  | decPair p => rfl
  | accOp o => rfl
  | alu op src => exact operandByte_stopOr src s (fun b t => (aluWrite op b t).advance (sourceLength src))
  | ld r src => exact operandByte_stopOr src s (fun b t => (t.setReg r b).advance (sourceLength src))
  | str r p =>
    simp only [formExec, formNext, storeOp, memWrite_eq, accessFault, dataReads, dataWrites, List.findSome?, storeFault]
    cases writeAdmitted (s.kindAt (effAddr p s)) <;> rfl
  | mov a b => rfl
  | movPair a b => rfl
  | pshPair p => exact push16_stopOr (s.regs.getPair p) s (·.advance 1)
  | popPair p => exact pop16_stopOr s (fun v t => (t.setPair p v).advance 1)
  | pshPc => exact push16_stopOr (s.pc + 1#16) s (·.advance 1)
  | popPc => exact pop16_stopOr s (fun v t => t.setPc v)

/-- All an instruction can do; later proofs about faults and about two runs side by side start here. -/
theorem exec_eq_stopOr (i : Instr) (s : State) : exec i s = stopOr (accessFault i.form s) (instrNext i s) := by
  rw [exec_eq, formExec_eq, instrNext]
  cases i.mode <;> cases accessFault i.form s <;> rfl

theorem exec_eq_fault_iff {i : Instr} {s : State} {e : Fault} : exec i s = .fault e ↔ accessFault i.form s = some e := by
  rw [exec_eq_stopOr]
  cases accessFault i.form s <;> simp [stopOr]

theorem exec_ne_refused (i : Instr) (s : State) (r : Refusal) : exec i s ≠ .refused r := by
  rw [exec_eq_stopOr]
  cases accessFault i.form s <;> exact nofun

/-- Settles O41: the fault is that of an access in the instruction's own lists, and its kind says which fault it is. -/
theorem stuckNamesTheCell : Obligations.StuckNamesTheCell := by
  intro i s f h
  rw [exec_eq_fault_iff, accessFault, Option.or_eq_some_iff] at h
  rcases h with h | ⟨-, h⟩
  · obtain ⟨a, hmem, ha⟩ := List.exists_of_findSome?_eq_some h
    obtain ⟨hkind, rfl⟩ := readFault_eq_some_iff.mp ha
    exact .inl ⟨a, List.mem_append_left _ hmem, hkind, rfl⟩
  · obtain ⟨a, hmem, ha⟩ := List.exists_of_findSome?_eq_some h
    rcases storeFault_eq_some_iff.mp ha with ⟨hkind, rfl⟩ | ⟨hkind, rfl⟩
    · exact .inl ⟨a, List.mem_append_right _ hmem, hkind, rfl⟩
    · exact .inr ⟨a, hmem, hkind, rfl⟩

theorem exec_fault_of_not_admitted {i : Instr} {s : State} (h : dataAdmitted i.form s = false) :
    ∃ e, exec i s = .fault e := by
  cases he : accessFault i.form s with
  | none => rw [(accessFault_eq_none_iff i.form s).mp he] at h; cases h
  | some e => exact ⟨e, exec_eq_fault_iff.mpr he⟩

/-- Settles O43: the second stack write is one of the call's data accesses, so without it they are not all admitted. -/
theorem callIsAllOrNothing : Obligations.CallIsAllOrNothing := by
  intro i s k b1 b2 hform hcond hsecond
  apply exec_fault_of_not_admitted
  simp [hform, dataAdmitted, dataReads, dataWrites, hcond, hsecond]

end Sys2Proof.Proofs
end

section
/-! PROOF. The fetch and the step (30_encoding.md R107, R108, R115, R116): the instruction fetched is the one whose bytes
stand at `pc`, and a step is that instruction after the boundary. -/

namespace Sys2Proof.Proofs
open Sys2Proof.Machine

theorem fetchByte_eq_ok_iff {a : Addr} {s : State} {b : Byte} :
    fetchByte a s = .ok b ↔ fetchAdmitted (s.kindAt a) = true ∧ s.mem.read a = b := by
  rw [fetchByte_eq]
  split <;> simp [*]

theorem holds_nil (s : State) : s.holds [] := fun _ _ h => nomatch h

theorem holds_cons_iff {s : State} {b : Byte} {bs : List Byte} :
    s.holds (b :: bs) ↔ fetchByte s.pc s = .ok b ∧ (s.advance 1).holds bs := by
  have hnext (k : Nat) : s.pc + BitVec.ofNat 16 (k + 1) = s.pc + 1#16 + BitVec.ofNat 16 k := by bv_omega
  simp only [State.holds, fetchByte_eq_ok_iff, State.advance_pc, State.advance_mem, State.advance_kindAt]
  constructor
  · intro h
    refine ⟨by simpa using h 0 b rfl, fun k c hk => ?_⟩
    rw [← hnext]
    exact h (k + 1) c hk
  · rintro ⟨hfirst, hrest⟩ k c hk
    cases k with
    | zero => cases hk; simpa using hfirst
    | succ k => rw [hnext]; exact hrest k c hk

@[simp] theorem fetchByte_advance (a : Addr) (s : State) (n : Nat) : fetchByte a (s.advance n) = fetchByte a s := rfl

/-- The fetch reads the cell of the opcode byte, with as many bytes after it as the cell's format takes. -/
theorem fetchInstr_eq_next_iff_readEntry {s : State} {i : Instr} :
    fetchInstr s = .next i ↔ ∃ op ops, readEntry (entryAt s.mode op) ops = some i ∧ s.holds (op :: ops) := by
  have hsecond : s.pc + 1#16 + 1#16 = s.pc + 2#16 := by bv_omega
  unfold fetchInstr
  cases hop : fetchByte s.pc s with
  | error f => simp [holds_cons_iff, hop]
  | ok op =>
    simp only [holds_cons_iff, hop, Except.ok.injEq]
    cases he : entryAt s.mode op with
    | unlisted => simp [he]
    | f1 j => simp [he, holds_nil]
    | f2 mk => cases hb1 : fetchByte (s.pc + 1#16) s <;> simp [he, holds_nil, holds_cons_iff, hb1]
    | f3 mk =>
      cases hb1 : fetchByte (s.pc + 1#16) s <;> cases hb2 : fetchByte (s.pc + 2#16) s <;>
        simp [he, holds_nil, holds_cons_iff, hsecond, hb1, hb2]

theorem fetchInstr_eq_next_iff {s : State} {i : Instr} :
    fetchInstr s = .next i ↔ s.mode = i.mode ∧ s.holds (encode i) := by
  simp only [fetchInstr_eq_next_iff_readEntry, readEntry_eq_some_iff]
  constructor
  · rintro ⟨op, ops, ⟨hmode, hencode⟩, hholds⟩
    rw [hencode]
    exact ⟨hmode.symm, hholds⟩
  · rintro ⟨hmode, hholds⟩
    exact ⟨_, _, ⟨hmode.symm, rfl⟩, hholds⟩

theorem fetchInstr_eq_refused_iff {s : State} {r : Refusal} :
    fetchInstr s = .refused r ↔
      ∃ op, fetchByte s.pc s = .ok op ∧ entryAt s.mode op = .unlisted ∧ r = unlistedIn s.mode op := by
  unfold fetchInstr
  cases hop : fetchByte s.pc s with
  | error f => simp
  | ok op =>
    simp only [Except.ok.injEq, exists_eq_left']
    cases he : entryAt s.mode op with
    | unlisted => simp [eq_comm]
    | f1 j => simp
    | f2 mk => cases fetchByte (s.pc + 1#16) s <;> simp
    | f3 mk => cases fetchByte (s.pc + 1#16) s <;> cases fetchByte (s.pc + 2#16) s <;> simp

/-- The draw at the boundary has no part in the fetch. -/
theorem fetchInstr_boundary (s : State) : fetchInstr (boundary s) = fetchInstr s := rfl

/-- Inversion of `step`: a next state is the instruction's that stands ready, run after the boundary. -/
theorem step_eq_next_iff {s t : State} : step s = .next t ↔ ∃ i, s.ready i ∧ exec i (boundary s) = .next t := by
  unfold step State.ready
  rw [fetchInstr_boundary]
  cases s.run with
  | halted => simp
  | running =>
    simp only [← fetchInstr_eq_next_iff, true_and]
    cases fetchInstr s <;> simp

theorem step_of_ready {s : State} {i : Instr} (h : s.ready i) : step s = exec i (boundary s) := by
  obtain ⟨hrun, hmode, hholds⟩ := h
  simp [step, hrun, fetchInstr_boundary, fetchInstr_eq_next_iff.mpr ⟨hmode, hholds⟩]

theorem ready_unique {s : State} {i j : Instr} (hi : s.ready i) (hj : s.ready j) : i = j := by
  have hi := fetchInstr_eq_next_iff.mpr hi.2
  rw [fetchInstr_eq_next_iff.mpr hj.2] at hi
  exact (Host.Outcome.next.inj hi).symm

/-- Inversion of `step` for the laws about the next state. -/
theorem step_next_inv {s t : State} (h : step s = .next t) :
    ∃ i, s.ready i ∧ dataAdmitted i.form (boundary s) = true ∧ t = instrNext i (boundary s) := by
  obtain ⟨i, hready, hexec⟩ := step_eq_next_iff.mp h
  exact ⟨i, hready, exec_next_inv hexec⟩

theorem step_eq_refused_iff {s : State} {r : Refusal} :
    step s = .refused r ↔
      s.run = .running ∧
        ∃ op, fetchByte s.pc s = .ok op ∧ entryAt s.mode op = .unlisted ∧ r = unlistedIn s.mode op := by
  rw [← fetchInstr_eq_refused_iff]
  unfold step
  rw [fetchInstr_boundary]
  cases s.run with
  | halted => simp
  | running => cases fetchInstr s <;> simp [exec_ne_refused]

/-- Settles O7: the instruction at `pc` is the one fetched (`step_of_ready`); the boundary is its definition. -/
theorem stepRunsTheDecodedInstruction : Obligations.StepRunsTheDecodedInstruction :=
  fun _ _ h => ⟨step_of_ready h, rfl⟩

/-- Settles O8: a step is the ready instruction's `exec`, which has a next state when its data accesses are admitted and only
then. -/
theorem stepExactlyWhenEverythingIsAdmitted : Obligations.StepExactlyWhenEverythingIsAdmitted := by
  intro s
  constructor
  · rintro ⟨t, h⟩
    obtain ⟨i, hready, hadmitted, -⟩ := step_next_inv h
    exact ⟨i, hready, hadmitted⟩
  · rintro ⟨i, hready, hadmitted⟩
    exact ⟨_, (step_of_ready hready).trans (exec_of_admitted hadmitted)⟩

/-- Settles O5: no meaning refuses (`exec_ne_refused`), so a refusal of a step is the fetch's, of the byte at `pc`. -/
theorem nothingElseIsRefused : Obligations.NothingElseIsRefused := by
  refine ⟨exec_ne_refused, fun s r h => ?_⟩
  obtain ⟨-, op, hfetch, -, rfl⟩ := step_eq_refused_iff.mp h
  obtain ⟨-, rfl⟩ := fetchByte_eq_ok_iff.mp hfetch
  cases hext : s.ext <;> simp [State.mode, hext, unlistedIn]

/-- The cell has no row in the opcode table. -/
def isUnlisted : Entry → Bool
  | .unlisted => true
  | _ => false

theorem isUnlisted_iff (e : Entry) : isUnlisted e = true ↔ e = .unlisted := by
  cases e <;> simp [isUnlisted]

/-- The 26 bytes of R115. -/
def unlistedBaseBytes : List Byte :=
  [0o073, 0o074, 0o075, 0o066, 0o076, 0o077, 0o242, 0o252, 0o246, 0o256, 0o207, 0o217, 0o227, 0o237, 0o247, 0o257,
    0o267, 0o277, 0o300, 0o311, 0o322, 0o333, 0o344, 0o355, 0o366, 0o377]

/-- The 14 bytes of block 0 of R116. -/
def unlistedExtBytes : List Byte :=
  [0o002, 0o012, 0o023, 0o033, 0o072, 0o073, 0o004, 0o014, 0o025, 0o035, 0o074, 0o075, 0o066, 0o076]

/-- The base matrices read byte by byte. -/
theorem isUnlisted_base (op : Byte) : isUnlisted (entryAt .base op) = true ↔ op ∈ unlistedBaseBytes := by
  revert op
  decide

/-- The extended matrix read byte by byte; blocks 1 to 3 have none. -/
theorem isUnlisted_ext (op : Byte) :
    isUnlisted (entryAt .ext op) = true ↔ op ∈ unlistedExtBytes ∨ 0o100 ≤ op.toNat := by
  revert op
  decide

theorem step_eq_refused_unlisted_iff {s : State} (hrun : s.run = .running)
    (hfetch : fetchAdmitted (s.kindAt s.pc) = true) :
    step s = .refused (unlistedIn s.mode (s.mem.read s.pc)) ↔ isUnlisted (entryAt s.mode (s.mem.read s.pc)) = true := by
  have hop : fetchByte s.pc s = .ok (s.mem.read s.pc) := fetchByte_eq_ok_iff.mpr ⟨hfetch, rfl⟩
  simp only [step_eq_refused_iff, hrun, hop, isUnlisted_iff, true_and]
  constructor
  · rintro ⟨op, hbyte, hunlisted, -⟩
    cases hbyte
    exact hunlisted
  · exact fun hunlisted => ⟨_, rfl, hunlisted, rfl⟩

/-- Settles O4: the refused bytes are the unlisted cells of the mode's matrices. -/
theorem refusedExactlyOnUnlistedOpcodes : Obligations.RefusedExactlyOnUnlistedOpcodes := by
  intro s hrun hfetch
  have hrefused := step_eq_refused_unlisted_iff hrun hfetch
  refine ⟨fun hext => ?_, fun hext => ?_⟩
  · have hmode : s.mode = .base := by simp [State.mode, hext]
    rw [hmode] at hrefused
    exact hrefused.trans (isUnlisted_base _)
  · have hmode : s.mode = .ext := by simp [State.mode, hext]
    rw [hmode] at hrefused
    exact hrefused.trans (isUnlisted_ext _)

/-- Settles O42: the first thing a running machine does is fetch the byte at `pc`. -/
theorem noStepWithoutAFetch : Obligations.NoStepWithoutAFetch := by
  intro s
  have hstuck {f : Fault} (hrun : s.run = .running) (hfetch : fetchByte s.pc s = .error f) : step s = .fault f := by
    have hfault : fetchInstr (boundary s) = .fault f := by rw [fetchInstr_boundary, fetchInstr, hfetch]
    simp [step, hrun, hfault]
  refine ⟨fun hrun => by simp [step, hrun], fun hrun hkind => hstuck hrun ?_, fun hrun hkind => hstuck hrun ?_⟩
  · simp [fetchByte, hkind]
  · simp [fetchByte, hkind]

end Sys2Proof.Proofs
end

section
/-! PROOF. The next state of a form, field by field (10_state.md R31 to R41, R55): one equation, `formNext_eq`, that the
frames and the next-state statements read their fields from. -/

namespace Sys2Proof.Proofs
open Sys2Proof.Machine

theorem State.eq_of_fields {s t : State} (regs : s.regs = t.regs) (pc : s.pc = t.pc) (flags : s.flags = t.flags)
    (ext : s.ext = t.ext) (run : s.run = t.run) (mem : s.mem = t.mem) (cfg : s.cfg = t.cfg)
    (iDraws : s.iDraws = t.iDraws) (iCount : s.iCount = t.iCount) (deviceReads : s.deviceReads = t.deviceReads)
    (deviceLog : s.deviceLog = t.deviceLog) : s = t := by
  cases s
  cases t
  simp_all

/-- The state after data reads at these addresses, in order. -/
def State.afterReads (s : State) (as : List Addr) : State := as.foldl State.afterRead s

/-- The state after these cells are written, in order. -/
def State.afterStores (s : State) (cs : List (Addr × Byte)) : State := cs.foldl (fun t c => t.afterWrite c.1 c.2) s

/-- The two cells a 16-bit push writes (20_memory.md R78). -/
def pushStores (s : State) (v : Addr) : List (Addr × Byte) :=
  [(s.stackAddr s.regs.sp, firstPushed s.cfg v), (s.stackAddr (s.regs.sp + 1#8), secondPushed s.cfg v)]

/-- The cells a form writes, with their bytes, in order. -/
def dataStores (f : Form) (s : State) : List (Addr × Byte) :=
  match f with
  | .jsr k _ _ => if condHolds k s.flags then pushStores s (s.pc + 3#16) else []
  | .psh r => [(s.stackAddr s.regs.sp, s.regs.get r)]
  | .str r p => [(effAddr p s, s.regs.get r)]
  | .pshPair p => pushStores s (s.regs.getPair p)
  | .pshPc => pushStores s (s.pc + 1#16)
  | _ => []

theorem dataStores_fst (f : Form) (s : State) : (dataStores f s).map Prod.fst = dataWrites f s := by
  cases f with
  | jsr k b1 b2 => by_cases h : condHolds k s.flags = true <;> simp [dataStores, dataWrites, pushStores, h]
  | _ => rfl

/-- The registers after a form. -/
def nextRegs (f : Form) (s : State) : Regs :=
  match f with
  | .jsr k _ _ => if condHolds k s.flags then s.regs.set .sp (s.regs.sp + 2#8) else s.regs
  | .rtn k => if condHolds k s.flags then s.regs.set .sp (s.regs.sp - 2#8) else s.regs
  | .psh _ => s.regs.set .sp (s.regs.sp + 1#8)
  | .pop r => (s.regs.set .sp (s.regs.sp - 1#8)).set r (s.readValue (s.stackAddr (s.regs.sp - 1#8)))
  | .incPair p => s.regs.setPair p (s.regs.getPair p + 1#16)
  | .decPair p => s.regs.setPair p (s.regs.getPair p - 1#16)
  | .accOp o => s.regs.set .acc (accResult s.cfg.subCarryOut o s.regs.acc s.flags.c).1
  | .alu op src =>
    s.regs.set .acc (aluAcc op s.regs.acc (aluResult s.cfg.subCarryOut op s.regs.acc (s.sourceValue src) s.flags.c).1)
  | .ld r src => s.regs.set r (s.sourceValue src)
  | .mov x d => s.regs.set d (s.regs.get x)
  | .movPair x d => s.regs.setPair d (s.regs.getPair x)
  | .pshPair _ => s.regs.set .sp (s.regs.sp + 2#8)
  | .popPair p => (s.regs.set .sp (s.regs.sp - 2#8)).setPair p s.popped16
  | .pshPc => s.regs.set .sp (s.regs.sp + 2#8)
  | .popPc => s.regs.set .sp (s.regs.sp - 2#8)
  | .control _ | .jmp _ _ _ | .str _ _ => s.regs

/-- The flags after machine control. -/
def controlFlags (k : Control) (f : Flags) : Flags :=
  match k with
  | .clc => { f with c := false }
  | .cln => { f with n := false }
  | .clz => { f with z := false }
  | .cli => { f with i := false }
  | .clf => { c := false, n := false, z := false, i := false }
  | .nin | .ext | .hlt => f

/-- The flags after a form. -/
def nextFlags (f : Form) (s : State) : Flags :=
  match f with
  | .control k => controlFlags k s.flags
  | .accOp o =>
    let rc := accResult s.cfg.subCarryOut o s.regs.acc s.flags.c
    resultFlags s.flags rc.1 rc.2
  | .alu op src =>
    let rc := aluResult s.cfg.subCarryOut op s.regs.acc (s.sourceValue src) s.flags.c
    resultFlags s.flags rc.1 rc.2
  | _ => s.flags

/-- Where a form sends `pc`, if not to the next instruction (R39). -/
def jumpTarget (f : Form) (s : State) : Option Addr :=
  match f with
  | .jmp k b1 b2 => if condHolds k s.flags then some (absOperand s.cfg b1 b2) else none
  | .jsr k b1 b2 => if condHolds k s.flags then some (absOperand s.cfg b1 b2) else none
  | .rtn k => if condHolds k s.flags then some s.popped16 else none
  | .popPc => some s.popped16
  | _ => none

/-- `pc` after a form. -/
def nextPc (f : Form) (s : State) : Addr :=
  (jumpTarget f s).getD (s.pc + BitVec.ofNat 16 (f.operandBytes.length + 1))

/-- The latch after a form, before an extended instruction clears it. -/
def nextExt (f : Form) (s : State) : Bool :=
  match f with
  | .control .ext => true
  | _ => s.ext

/-- The run state after a form. -/
def nextRun (f : Form) (s : State) : RunState :=
  match f with
  | .control .hlt => .halted
  | _ => s.run

theorem placeLength_eq (p : Place) : placeLength p = p.bytes.length + 1 := by cases p <;> rfl

theorem sourceLength_eq (src : Source) : sourceLength src = src.bytes.length + 1 := by
  cases src with
  | mem p => exact placeLength_eq p
  | imm nn => rfl
  | reg r => rfl

@[simp] theorem afterReads_nil (s : State) : State.afterReads s [] = s := rfl

@[simp] theorem afterReads_cons (s : State) (a : Addr) (as : List Addr) :
    State.afterReads s (a :: as) = State.afterReads (s.afterRead a) as := rfl

@[simp] theorem afterStores_nil (s : State) : State.afterStores s [] = s := rfl

@[simp] theorem afterStores_cons (s : State) (c : Addr × Byte) (cs : List (Addr × Byte)) :
    State.afterStores s (c :: cs) = State.afterStores (s.afterWrite c.1 c.2) cs := rfl

@[simp] theorem afterReads_sourceReads (s : State) (src : Source) :
    State.afterReads s (sourceReads s src) = s.afterSource src := by
  cases src <;> rfl

/-! Reading the operand leaves every field but the count of device reads. -/

section
variable (s : State) (src : Source)

@[simp] theorem afterSource_regs : (s.afterSource src).regs = s.regs := by rw [State.afterSource_eq]

@[simp] theorem afterSource_pc : (s.afterSource src).pc = s.pc := by rw [State.afterSource_eq]

@[simp] theorem afterSource_flags : (s.afterSource src).flags = s.flags := by rw [State.afterSource_eq]

@[simp] theorem afterSource_ext : (s.afterSource src).ext = s.ext := by rw [State.afterSource_eq]

@[simp] theorem afterSource_run : (s.afterSource src).run = s.run := by rw [State.afterSource_eq]

@[simp] theorem afterSource_mem : (s.afterSource src).mem = s.mem := by rw [State.afterSource_eq]

@[simp] theorem afterSource_cfg : (s.afterSource src).cfg = s.cfg := by rw [State.afterSource_eq]

@[simp] theorem afterSource_iDraws : (s.afterSource src).iDraws = s.iDraws := by rw [State.afterSource_eq]

@[simp] theorem afterSource_iCount : (s.afterSource src).iCount = s.iCount := by rw [State.afterSource_eq]

@[simp] theorem afterSource_deviceLog : (s.afterSource src).deviceLog = s.deviceLog := by rw [State.afterSource_eq]

end

/-- The next state written out. -/
def nextState (f : Form) (s : State) : State :=
  { s with
    regs := nextRegs f s
    pc := nextPc f s
    flags := nextFlags f s
    ext := nextExt f s
    run := nextRun f s
    mem := (State.afterStores s (dataStores f s)).mem
    deviceReads := (State.afterReads s (dataReads f s)).deviceReads
    deviceLog := (State.afterStores s (dataStores f s)).deviceLog }

theorem formNext_eq (f : Form) (s : State) : formNext f s = nextState f s := by
  cases f with
  | control k => cases k <;> rfl
  | jmp k | jsr k | rtn k =>
    by_cases h : condHolds k s.flags = true <;> simp only [formNext, State.pushed16, State.afterPop16, h] <;>
      apply State.eq_of_fields <;>
      simp [nextState, nextRegs, nextPc, nextFlags, nextExt, nextRun, jumpTarget, Form.operandBytes, dataReads, dataStores,
        pushStores, h]
  | psh | pop | alu | ld | str | pshPair | popPair | pshPc | popPc =>
    simp only [formNext, aluWrite, State.pushed16, State.afterPop16]
    apply State.eq_of_fields <;>
      simp [nextState, nextRegs, nextPc, nextFlags, nextExt, nextRun, jumpTarget, Form.operandBytes, dataReads, dataStores,
        pushStores, sourceLength_eq, placeLength_eq]
  | incPair | decPair | accOp | mov | movPair => rfl

/-- The next state of an instruction written out: an extended one clears the latch (30_encoding.md R108). -/
theorem instrNext_eq (i : Instr) (s : State) :
    instrNext i s = { nextState i.form s with ext := if i.mode = .ext then false else nextExt i.form s } := by
  unfold instrNext
  rw [formNext_eq]
  cases i.mode <;> rfl

end Sys2Proof.Proofs
end

section
/-! PROOF. Frames: what an instruction leaves as it was (10_state.md R31 to R41, 20_memory.md R72, R73). -/

namespace Sys2Proof.Proofs
open Sys2Proof.Machine

theorem Regs.get_set_of_beq_false (g : Regs) {r q : Reg} (h : (q == r) = false) (v : Byte) : (g.set r v).get q = g.get q :=
  Regs.get_set_of_ne g (by simpa using h) v

theorem nextRegs_get_of_not_written {f : Form} {r : Reg} (s : State) (h : writesReg f r = false) :
    (nextRegs f s).get r = s.regs.get r := by
  cases f with
  | control | jmp | str => rfl
  | jsr k | rtn k =>
    simp only [nextRegs]
    split
    · exact Regs.get_set_of_beq_false _ h _
    · rfl
  | psh | ld | mov | accOp | pshPair | pshPc | popPc => exact Regs.get_set_of_beq_false _ h _
  | incPair | decPair | movPair => exact Regs.get_setPair_of_not_holds _ h _
  | pop x =>
    obtain ⟨hdest, hsp⟩ := Bool.or_eq_false_iff.mp h
    exact (Regs.get_set_of_beq_false _ hdest _).trans (Regs.get_set_of_beq_false _ hsp _)
  | popPair p =>
    obtain ⟨hdest, hsp⟩ := Bool.or_eq_false_iff.mp h
    exact (Regs.get_setPair_of_not_holds _ hdest _).trans (Regs.get_set_of_beq_false _ hsp _)
  | alu op src =>
    rcases Bool.and_eq_false_iff.mp h with hcmp | hacc
    · obtain rfl : op = .cmp := by simpa using hcmp
      cases r <;> rfl
    · exact Regs.get_set_of_beq_false _ hacc _

/-- Settles O44: the registers after a form, register by register. -/
theorem registerFrame : Obligations.RegisterFrame := by
  intro i s t r h hwrites
  obtain ⟨-, rfl⟩ := exec_next_inv h
  rw [instrNext_eq]
  exact nextRegs_get_of_not_written s hwrites

theorem nextPc_of_not_mayJump {f : Form} (s : State) (h : mayJump f = false) :
    nextPc f s = s.pc + BitVec.ofNat 16 (f.operandBytes.length + 1) := by
  cases f with
  | jmp | jsr | rtn | popPc => cases h
  | _ => rfl

/-- Settles O49: only the four families have a jump target. -/
theorem programCounterWriters : Obligations.ProgramCounterWriters := by
  intro i s t h hjump
  obtain ⟨-, rfl⟩ := exec_next_inv h
  rw [instrNext_eq]
  exact nextPc_of_not_mayJump s hjump

/-- A form that writes no result writes flags only where it is one of the five clears. -/
theorem nextFlags_of_no_result {f : Form} (s : State) (halu : ∀ op src, f ≠ .alu op src) (hacc : ∀ op, f ≠ .accOp op) :
    nextFlags f s =
      { c := s.flags.c && f != .control .clc && f != .control .clf
        n := s.flags.n && f != .control .cln && f != .control .clf
        z := s.flags.z && f != .control .clz && f != .control .clf
        i := s.flags.i && f != .control .cli && f != .control .clf } := by
  cases f with
  | alu op src => exact absurd rfl (halu op src)
  | accOp op => exact absurd rfl (hacc op)
  | control k => cases k <;> simp [nextFlags, controlFlags, bne, beq_eq_decide]
  | _ => simp [nextFlags, bne, beq_eq_decide]

theorem form_bne_form (i j : Instr) : (i.form != j.form) = (i != j) := by
  have hiff : i.form = j.form ↔ i = j := ⟨form_injective, congrArg Instr.form⟩
  simp [bne, beq_eq_decide, hiff]

/-- The flags after an instruction that writes no result, by the instruction's own name. -/
theorem nextFlags_of_instr {i : Instr} (s : State) (halu : ∀ op src, i.form ≠ .alu op src)
    (hacc : ∀ op, i.form ≠ .accOp op) :
    nextFlags i.form s =
      { c := s.flags.c && i != .clc && i != .clf, n := s.flags.n && i != .cln && i != .clf
        z := s.flags.z && i != .clz && i != .clf, i := s.flags.i && i != .cli && i != .clf } := by
  simp only [nextFlags_of_no_result s halu hacc, ← form_bne_form]
  rfl

theorem resultFlags_eq (f : Flags) (r : Byte) (c : Bool) :
    resultFlags f r c = { c := c, n := r.getLsbD 7, z := r == 0#8, i := f.i } := by
  rw [beq_eq_decide]
  rfl

theorem aluAcc_eq (op : AluOp) (old r : Byte) : aluAcc op old r = if op = .cmp then old else r := by
  cases op <;> rfl

/-- Settles O45: `nextFlags` has a result's flags for block 1 and the accumulator operations, and the clears for the rest. -/
theorem flagWriters : Obligations.FlagWriters := by
  intro i s t h
  obtain ⟨-, rfl⟩ := exec_next_inv h
  simp only [instrNext_eq, nextState]
  refine ⟨fun op src hform => ?_, fun op hform => ?_, fun halu hacc => ?_⟩
  · rw [hform, ← aluAcc_eq]
    exact ⟨resultFlags_eq _ _ _, rfl⟩
  · rw [hform]
    exact ⟨resultFlags_eq _ _ _, rfl⟩
  · rw [nextFlags_of_instr s halu hacc]
    exact ⟨rfl, rfl, rfl, rfl⟩

/-- Settles O11: `SetNZ` with its comparison to zero as a Boolean. -/
theorem resultFlagsLaw : Obligations.ResultFlagsLaw := resultFlags_eq

/-! Memory and the device log over a list of writes. -/

theorem afterStores_read {s : State} {cs : List (Addr × Byte)} {a : Addr} (h : a ∉ cs.map Prod.fst) :
    (State.afterStores s cs).mem.read a = s.mem.read a := by
  induction cs generalizing s with
  | nil => rfl
  | cons c cs ih =>
    obtain ⟨hne, hrest⟩ := List.ne_and_not_mem_of_not_mem_cons h
    rw [afterStores_cons, ih hrest, State.afterWrite_read_of_ne s c.2 hne]

/-- An admitted write changes ram only: a device keeps its byte and logs the event. -/
theorem afterWrite_read_of_not_ram {s : State} {a b : Addr} (v : Byte) (hwrite : writeAdmitted (s.kindAt a) = true)
    (hb : s.kindAt b ≠ .ram) : (s.afterWrite a v).mem.read b = s.mem.read b := by
  by_cases hab : b = a
  · subst hab
    have hdevice : s.kindAt b = .device := by
      cases hkind : s.kindAt b <;> simp_all [writeAdmitted]
    rw [State.afterWrite_mem, if_pos hdevice]
  · exact State.afterWrite_read_of_ne s v hab

theorem afterStores_read_of_not_ram {s : State} {cs : List (Addr × Byte)} {b : Addr}
    (hwrites : ∀ c ∈ cs, writeAdmitted (s.kindAt c.1) = true) (hb : s.kindAt b ≠ .ram) :
    (State.afterStores s cs).mem.read b = s.mem.read b := by
  induction cs generalizing s with
  | nil => rfl
  | cons c cs ih =>
    obtain ⟨hfirst, hrest⟩ := List.forall_mem_cons.mp hwrites
    rw [afterStores_cons, ih (by simpa using hrest) (by simpa using hb), afterWrite_read_of_not_ram c.2 hfirst hb]

theorem dataStores_admitted {f : Form} {s : State} (h : dataAdmitted f s = true) :
    ∀ c ∈ dataStores f s, writeAdmitted (s.kindAt c.1) = true := by
  intro c hc
  have hmem : c.1 ∈ dataWrites f s := by
    rw [← dataStores_fst]
    exact List.mem_map_of_mem hc
  exact List.all_eq_true.mp (Bool.and_eq_true_iff.mp h).2 c.1 hmem

/-- Settles O48: memory changes through the instruction's writes alone, and those that are admitted change ram alone. -/
theorem memoryFrame : Obligations.MemoryFrame := by
  intro i s t a h hframe
  obtain ⟨hadmitted, rfl⟩ := exec_next_inv h
  rw [instrNext_eq]
  rcases hframe with hnot | hkind
  · rw [← dataStores_fst] at hnot
    exact afterStores_read hnot
  · exact afterStores_read_of_not_ram (dataStores_admitted hadmitted) hkind

end Sys2Proof.Proofs
end

section
/-! PROOF. What every step keeps: the latch and the run state, I over the boundary, the configuration, the invariant
(10_state.md R48 to R50, R54, R55, 30_encoding.md R108, R118, 60_exceptions.md R531). -/

namespace Sys2Proof.Proofs
open Sys2Proof.Machine

theorem mode_eq_base_iff (s : State) : s.mode = .base ↔ s.ext = false := by
  cases h : s.ext <;> simp [State.mode, h]

theorem run_of_ready {s : State} {i : Instr} (h : s.ready i) : s.run = .running := h.1

theorem mode_of_ready {s : State} {i : Instr} (h : s.ready i) : s.mode = i.mode := h.2.1

theorem nextExt_eq_true_iff (f : Form) (s : State) : nextExt f s = true ↔ f = .control .ext ∨ s.ext = true := by
  cases f with
  | control k => cases k <;> simp [nextExt]
  | _ => simp [nextExt]

theorem nextRun_eq_halted_iff (f : Form) (s : State) :
    nextRun f s = .halted ↔ f = .control .hlt ∨ s.run = .halted := by
  cases f with
  | control k => cases k <;> simp [nextRun]
  | _ => simp [nextRun]

/-- The flag I after a form: a result keeps it, two clears write it. -/
theorem nextFlags_i (f : Form) (s : State) :
    (nextFlags f s).i = (s.flags.i && f != .control .cli && f != .control .clf) := by
  cases f with
  | control k => cases k <;> simp [nextFlags, controlFlags, bne, beq_eq_decide]
  | _ => simp [nextFlags, resultFlags, bne, beq_eq_decide]

/-- The latch after an instruction in base mode; in extended mode it is clear. -/
theorem instrNext_ext_eq_true_iff {s : State} {i : Instr} (hmode : s.mode = i.mode) :
    (instrNext i s).ext = true ↔ i = .ext := by
  rw [instrNext_eq]
  cases hi : i.mode with
  | ext =>
    constructor
    · exact nofun
    · rintro rfl
      cases hi
  | base =>
    have hext : s.ext = false := (mode_eq_base_iff s).mp (hmode.trans hi)
    have hform : i.form = .control .ext ↔ i = .ext := ⟨fun h => form_injective h, fun h => h ▸ rfl⟩
    simp [nextExt_eq_true_iff, hext, hform]

/-- Settles O50: the step ran the ready instruction, and that is `EXT` exactly when `EXT` is ready. -/
theorem latchLaw : Obligations.LatchLaw := by
  intro s t h
  obtain ⟨i, hready, -, rfl⟩ := step_next_inv h
  rw [instrNext_ext_eq_true_iff (s := boundary s) (mode_of_ready hready)]
  constructor
  · rintro rfl
    exact hready
  · exact ready_unique hready

theorem instrNext_run_eq_halted_iff {s : State} {i : Instr} (hrun : s.run = .running) :
    (instrNext i s).run = .halted ↔ i = .hlt := by
  have hform : i.form = .control .hlt ↔ i = .hlt := ⟨fun h => form_injective h, fun h => h ▸ rfl⟩
  simp [instrNext_eq, nextState, nextRun_eq_halted_iff, hrun, hform]

/-- Settles O51: only `HLT` writes the run state; it runs in base mode, so the latch is clear. -/
theorem onlyHaltHalts : Obligations.OnlyHaltHalts := by
  intro s t h
  obtain ⟨i, hready, -, rfl⟩ := step_next_inv h
  have hhalts : (instrNext i (boundary s)).run = .halted ↔ i = .hlt := instrNext_run_eq_halted_iff (run_of_ready hready)
  rw [hhalts]
  refine ⟨⟨?_, ready_unique hready⟩, ?_⟩
  · rintro rfl
    exact hready
  · rintro rfl
    exact ⟨(mode_eq_base_iff s).mp (mode_of_ready hready), rfl⟩

/-- Settles O52: the boundary takes the draw, then the instruction's flags apply to the I it leaves. -/
theorem interruptFlagOverAStep : Obligations.InterruptFlagOverAStep := by
  intro s t i hready h
  obtain ⟨-, rfl⟩ := exec_next_inv ((step_of_ready hready).symm.trans h)
  have hi := nextFlags_i i.form (boundary s)
  rw [show Form.control .cli = Instr.cli.form from rfl, show Form.control .clf = Instr.clf.form from rfl, form_bne_form,
    form_bne_form] at hi
  rw [instrNext_eq]
  exact hi

theorem deviceReads_le_afterReads (s : State) (as : List Addr) :
    s.deviceReads ≤ (State.afterReads s as).deviceReads := by
  induction as generalizing s with
  | nil => exact Nat.le_refl _
  | cons a as ih =>
    have hone : s.deviceReads ≤ (s.afterRead a).deviceReads := by
      unfold State.afterRead
      split
      · exact Nat.le_succ _
      · exact Nat.le_refl _
    exact hone.trans (ih _)

/-- What writes do to the device log: they add events at 16-bit addresses to its end. -/
theorem afterStores_deviceLog (s : State) (cs : List (Addr × Byte)) :
    ∃ events, (State.afterStores s cs).deviceLog = s.deviceLog ++ events ∧ ∀ c ∈ events, c.1 < 65536 := by
  induction cs generalizing s with
  | nil => exact ⟨[], by simp⟩
  | cons c cs ih =>
    obtain ⟨events, hlog, hbound⟩ := ih (s.afterWrite c.1 c.2)
    rw [afterStores_cons, hlog, State.afterWrite_deviceLog]
    split
    · refine ⟨(c.1.toNat, c.2) :: events, by simp, ?_⟩
      exact List.forall_mem_cons.mpr ⟨c.1.isLt, hbound⟩
    · exact ⟨events, rfl, hbound⟩

theorem afterStores_wf {s : State} (cs : List (Addr × Byte)) (h : s.mem.wf = true) :
    (State.afterStores s cs).mem.wf = true := by
  induction cs generalizing s with
  | nil => exact h
  | cons c cs ih => exact ih (State.afterWrite_wf s c.1 c.2 h)

/-- Settles O53: no form writes the configuration or the draws; a form's reads and writes are those of its two lists. -/
theorem stepKeepsTheConfiguration : Obligations.StepKeepsTheConfiguration := by
  intro s t h
  obtain ⟨i, -, -, rfl⟩ := step_next_inv h
  rw [instrNext_eq]
  obtain ⟨events, hlog, -⟩ := afterStores_deviceLog (boundary s) (dataStores i.form (boundary s))
  exact ⟨rfl, rfl, rfl, deviceReads_le_afterReads (boundary s) _, events, hlog⟩

/-- Settles O54: each field of the invariant is kept by the writes of the instruction, by the fixed configuration, or by
`onlyHaltHalts`. -/
theorem everyStepKeepsTheInvariant : Obligations.EveryStepKeepsTheInvariant := by
  rintro s t ⟨hmem, hcfg, -, hlog⟩ h
  have hhalted := (onlyHaltHalts s t h).2
  obtain ⟨i, -, -, rfl⟩ := step_next_inv h
  rw [instrNext_eq] at hhalted ⊢
  obtain ⟨events, hevents, hbound⟩ := afterStores_deviceLog (boundary s) (dataStores i.form (boundary s))
  refine ⟨afterStores_wf _ hmem, hcfg, fun hrun => (hhalted hrun).1, ?_⟩
  intro c hc
  rw [nextState, hevents, List.mem_append] at hc
  exact hc.elim (hlog c) (hbound c)

/-- Settles O55: the launch state has no memory cell, one range and an empty log. -/
theorem resetIsALaunchState : Obligations.ResetIsALaunchState := by
  have hlaunch : State.reset.Launch := ⟨rfl, rfl⟩
  have hmap : State.reset.cfg.wf = true := by decide
  exact ⟨hlaunch, reset_mem_wf, hmap, fun _ => rfl, nofun⟩

/-- Settles O56: the bytes after `EXT` stand at the second step's `pc`, in the mode the first step leaves. -/
theorem prefixThenExtended : Obligations.PrefixThenExtended := by
  intro s i hrun hext hmode hholds t
  obtain ⟨hfirst, hrest⟩ := holds_cons_iff.mp hholds
  have hready : s.ready .ext := ⟨hrun, (mode_eq_base_iff s).mpr hext, holds_cons_iff.mpr ⟨hfirst, holds_nil _⟩⟩
  have hsecond : t.ready i := ⟨hrun, hmode.symm, hrest⟩
  refine ⟨step_of_ready hready, step_of_ready hsecond, fun u hu => ?_⟩
  obtain ⟨-, rfl⟩ := exec_next_inv ((step_of_ready hsecond).symm.trans hu)
  rw [instrNext_ext, if_pos hmode]

end Sys2Proof.Proofs
end

section
/-! PROOF. Flag laws: sums, differences, shifts and logic on one byte (10_state.md R44 to R47). -/

namespace Sys2Proof.Proofs
open Sys2Proof.Machine

theorem add8_toNat (a b : Byte) (cin : Bool) : (add8 a b cin).1.toNat = (a.toNat + b.toNat + cin.toNat) % 256 :=
  BitVec.toNat_ofNat _ _

/-- The carry of a sum of two bytes is bit 8, since the sum stays below 512. -/
theorem decide_lt_eq_testBit {t : Nat} (h : t ≤ 511) : decide (255 < t) = t.testBit 8 := by
  rw [Nat.testBit_eq_decide_div_mod_eq, decide_eq_decide]
  omega

/-- Settles O9: both operands are at most 255, so the carry is bit 8 of the sum. -/
theorem additionLaw : Obligations.AdditionLaw := by
  intro o a b cin t
  have hbound : t ≤ 511 := by
    have hcin := cin.toNat_le
    have ha := a.isLt
    have hb := b.isLt
    omega
  exact ⟨hbound, add8_toNat a b cin, decide_lt_eq_testBit hbound, decide_eq_true_iff, rfl, rfl, rfl⟩

theorem sub8_toNat (o : SubCarryOut) (a b : Byte) (bin : Bool) :
    ((sub8 o a b bin).1.toNat : Int) = ((a.toNat : Int) - b.toNat - bin.toNat) % 256 := by
  simp only [sub8, BitVec.toNat_ofInt]
  omega

/-- C after a subtraction: the borrow, or its complement (R45). -/
theorem sub8_carry (o : SubCarryOut) (a b : Byte) (bin : Bool) :
    (sub8 o a b bin).2 = (decide ((a.toNat : Int) - b.toNat - bin.toNat < 0) == (o == .borrow)) := by
  cases o with
  | borrow => exact (beq_true _).symm
  | notBorrow => exact (beq_false _).symm

/-- Settles O10: the byte is the difference modulo 256, the carry its sign. -/
theorem subtractionLaw : Obligations.SubtractionLaw := by
  intro o a b bin t
  have hbin := bin.toNat_le
  have ha := a.isLt
  have hb := b.isLt
  have hborrow : (sub8 .borrow a b bin).2 = true ↔ a.toNat < b.toNat + bin.toNat := by
    simp only [sub8, decide_eq_true_iff]
    omega
  exact ⟨by omega, by omega, sub8_toNat o a b bin, hborrow, rfl, rfl, rfl, rfl, rfl, rfl⟩

/-! Shifts and rotates, bit by bit and as numbers. -/

theorem ror8_eq_append (a : Byte) (c : Bool) (j : Nat) :
    (ror8 a c).1.getLsbD j = if j < 7 then (a.extractLsb' 1 7).getLsbD j else (BitVec.ofBool c).getLsbD (j - 7) :=
  BitVec.getLsbD_append

theorem rol8_eq_append (a : Byte) (c : Bool) (j : Nat) :
    (rol8 a c).1.getLsbD j = if j < 1 then (BitVec.ofBool c).getLsbD j else (a.extractLsb' 0 7).getLsbD (j - 1) :=
  BitVec.getLsbD_append

theorem ror8_getLsbD (a : Byte) (c : Bool) {j : Nat} (h : j < 7) : (ror8 a c).1.getLsbD j = a.getLsbD (j + 1) := by
  simp [ror8_eq_append, h, Nat.add_comm]

theorem ror8_getLsbD_seven (a : Byte) (c : Bool) : (ror8 a c).1.getLsbD 7 = c := by
  rw [ror8_eq_append]
  simp

theorem rol8_getLsbD_succ (a : Byte) (c : Bool) {j : Nat} (h : j < 7) : (rol8 a c).1.getLsbD (j + 1) = a.getLsbD j := by
  simp [rol8_eq_append, h]

theorem rol8_getLsbD_zero (a : Byte) (c : Bool) : (rol8 a c).1.getLsbD 0 = c := by
  rw [rol8_eq_append]
  simp

/-- Settles O12: each bit of a rotate comes from one side of an append; a shift is the rotate of a clear carry. -/
theorem shiftLaw : Obligations.ShiftLaw := fun a c =>
  ⟨fun _ => ror8_getLsbD a c, ror8_getLsbD_seven a c, rfl, fun _ => rol8_getLsbD_succ a c,
    rol8_getLsbD_zero a c, rfl, rfl, rfl⟩

theorem ror8_toNat (a : Byte) (c : Bool) : (ror8 a c).1.toNat = a.toNat / 2 + 128 * c.toNat := by
  have happend : (ror8 a c).1.toNat = (BitVec.ofBool c).toNat <<< 7 ||| (a.extractLsb' 1 7).toNat :=
    BitVec.toNat_append _ _
  rw [happend, ← Nat.shiftLeft_add_eq_or_of_lt (a.extractLsb' 1 7).isLt]
  have ha := a.isLt
  simp only [BitVec.toNat_ofBool, BitVec.extractLsb'_toNat, Nat.shiftLeft_eq, Nat.shiftRight_eq_div_pow]
  omega

theorem getLsbD_seven_toNat (a : Byte) : (a.getLsbD 7).toNat = a.toNat / 128 := by
  have ha := a.isLt
  rw [BitVec.getLsbD, Nat.toNat_testBit]
  omega

/-- A rotate left moves the nine bits of the accumulator and C up by one place. -/
theorem rol8_toNat (a : Byte) (c : Bool) :
    256 * (rol8 a c).2.toNat + (rol8 a c).1.toNat = 2 * a.toNat + c.toNat := by
  have happend : (rol8 a c).1.toNat = (a.extractLsb' 0 7).toNat <<< 1 ||| (BitVec.ofBool c).toNat :=
    BitVec.toNat_append _ _
  have hcarry : (rol8 a c).2.toNat = a.toNat / 128 := getLsbD_seven_toNat a
  rw [happend, hcarry, ← Nat.shiftLeft_add_eq_or_of_lt (BitVec.ofBool c).isLt]
  simp only [BitVec.toNat_ofBool, BitVec.extractLsb'_toNat, Nat.shiftLeft_eq, Nat.shiftRight_eq_div_pow]
  omega

/-- The exclusive or as R46 writes it, with and, or and complement. -/
theorem or_and_not_and_eq_xor (a b : Byte) : (a ||| b) &&& ~~~(a &&& b) = a ^^^ b := by
  apply BitVec.eq_of_getLsbD_eq
  intro j hj
  simp only [BitVec.getLsbD_and, BitVec.getLsbD_or, BitVec.getLsbD_not, BitVec.getLsbD_xor, hj, decide_true, Bool.true_and]
  cases a.getLsbD j <;> cases b.getLsbD j <;> rfl

/-- Settles O13: each result is one bitwise operation (`or_and_not_and_eq_xor`), and each carry is the open function's bit. -/
theorem logicLaw : Obligations.LogicLaw := by
  intro o a b c
  refine ⟨fun j hj => ⟨?_, ?_, ?_, ?_⟩, rfl, rfl, rfl, rfl⟩
  · exact BitVec.getLsbD_and
  · exact BitVec.getLsbD_or
  · rw [aluResult, or_and_not_and_eq_xor]
    exact BitVec.getLsbD_xor
  · have hone : (0xFF#8).getLsbD j = true := by
      rw [show (0xFF#8) = BitVec.allOnes 8 from rfl, BitVec.getLsbD_allOnes, decide_eq_true hj]
    simp [accResult, BitVec.getLsbD_xor, hone]

end Sys2Proof.Proofs
end

section
/-! PROOF. Views, places, memory cells and the stack (10_state.md R34, 20_memory.md R72 to R79, R86). -/

namespace Sys2Proof.Proofs
open Sys2Proof.Machine

/-- Settles O16: the halves of each pair are read off the register file; a register outside a pair is none of its halves. -/
theorem pairsAreViews : Obligations.PairsAreViews := by
  intro g v b
  have hother (p : Pair) (r : Reg) (h : p.holds r = false) : (g.set r b).getPair p = g.getPair p := by
    obtain ⟨hhigh, hlow⟩ := pair_halves_of_not_holds h
    rw [Regs.getPair, Regs.get_set_of_ne g hhigh.symm, Regs.get_set_of_ne g hlow.symm, Regs.getPair]
  exact ⟨rfl, rfl, rfl, rfl, rfl, rfl, rfl, rfl, rfl, rfl, rfl, rfl, hother⟩

theorem zpOperand_eq (zz : Byte) : zpOperand zz = zz.setWidth 16 := by
  apply BitVec.eq_of_toNat_eq
  have hzz := zz.isLt
  rw [zpOperand, joinBytes_toNat, BitVec.toNat_setWidth]
  simp only [BitVec.toNat_ofNat]
  omega

/-- Settles O17: each place is one case of `effAddr`; a zero high byte adds nothing to a zero-page address. -/
theorem placeAddresses : Obligations.PlaceAddresses :=
  fun _ _ _ zz _ => ⟨rfl, zpOperand_eq zz, rfl⟩

/-- Settles O18: the canonical form makes the read of a written address see the byte (`Memory.read_write_self`). -/
theorem readAfterWrite : Obligations.ReadAfterWrite := by
  intro m a b v hm
  refine ⟨Memory.wf_write m hm a v, ?_⟩
  split
  · next h => rw [h, Memory.read_write_self m hm]
  · next h => exact Memory.read_write_of_ne m v h

/-- Settles O19: each access is a case distinction on the kind of the cell. -/
theorem accessesByKind : Obligations.AccessesByKind := by
  intro s a v
  refine ⟨fun h => ?ram, fun h => ?rom, fun h => ?absent, fun h => ?device⟩ <;>
    simp [memRead, fetchByte, memWrite, h, readAdmitted, State.readValue, State.afterRead, State.afterWrite]

theorem byte_sub_one (b : Byte) : BitVec.ofNat 8 (b.toNat + 255) = b - 1#8 := by bv_omega

theorem byte_add_one (b : Byte) : BitVec.ofNat 8 (b.toNat + 1) = b + 1#8 := by bv_omega

/-- Settles O20: SP counts modulo 256 inside the stack page, up after a write and down before a read. -/
theorem pushAndPopOneByte : Obligations.PushAndPopOneByte := by
  intro s v
  have haddr (p : Byte) : s.cfg.stackPage ++ p = s.stackAddr p := rfl
  simp only [haddr, byte_add_one, byte_sub_one]
  refine ⟨fun h => ?_, fun h => ?_⟩
  · rw [push8_eq, if_pos h]
    simp [State.setReg, Regs.set]
  · rw [pop8_eq, if_pos h]
    simp [State.setReg, Regs.set]

/-- Settles O59: each action is one update of a halted machine. -/
theorem frontPanelRules : Obligations.FrontPanelRules := by
  intro s
  refine ⟨fun hrun a => by simp [frontPanel, hrun], fun hrun => ?_⟩
  have heffect (a : HostAction) : frontPanel a s = .next (panelEffect a s) := by simp [frontPanel, hrun]
  simp only [heffect]
  exact ⟨fun _ _ => rfl, fun _ => rfl, fun _ => rfl, fun _ => rfl, fun _ => rfl, fun _ => rfl, fun _ _ => rfl, rfl⟩

/-! A 16-bit push and the pop that undoes it. -/

theorem stackAddr_inj {s : State} {p q : Byte} (h : s.stackAddr p = s.stackAddr q) : p = q := (joinBytes_inj h).2

/-- The two cells of a 16-bit entry are apart for every SP. -/
theorem stackAddr_ne_next (s : State) (p : Byte) : s.stackAddr p ≠ s.stackAddr (p + 1#8) := by
  intro h
  have := stackAddr_inj h
  bv_omega

/-- Both stack cells are ram: where the inverse law of the 16-bit push holds. -/
def StackRam (s : State) : Prop :=
  s.kindAt (s.stackAddr s.regs.sp) = .ram ∧ s.kindAt (s.stackAddr (s.regs.sp + 1#8)) = .ram

@[simp] theorem pushed16_regs (s : State) (v : Addr) : (s.pushed16 v).regs = s.regs.set .sp (s.regs.sp + 2#8) := by
  simp [State.pushed16]

@[simp] theorem pushed16_flags (s : State) (v : Addr) : (s.pushed16 v).flags = s.flags := by
  simp [State.pushed16]

@[simp] theorem pushed16_cfg (s : State) (v : Addr) : (s.pushed16 v).cfg = s.cfg := by
  simp [State.pushed16]

theorem pushed16_mem {s : State} (v : Addr) (h : StackRam s) :
    (s.pushed16 v).mem = (s.mem.write (s.stackAddr s.regs.sp) (firstPushed s.cfg v)).write
      (s.stackAddr (s.regs.sp + 1#8)) (secondPushed s.cfg v) := by
  obtain ⟨h1, h2⟩ := h
  simp [State.pushed16, State.afterWrite_mem, h1, h2]

theorem pushed16_read_first {s : State} (v : Addr) (hm : s.mem.wf = true) (h : StackRam s) :
    (s.pushed16 v).mem.read (s.stackAddr s.regs.sp) = firstPushed s.cfg v := by
  rw [pushed16_mem v h, Memory.read_write_of_ne _ _ (stackAddr_ne_next s s.regs.sp), Memory.read_write_self _ hm]

theorem pushed16_read_second {s : State} (v : Addr) (hm : s.mem.wf = true) (h : StackRam s) :
    (s.pushed16 v).mem.read (s.stackAddr (s.regs.sp + 1#8)) = secondPushed s.cfg v := by
  rw [pushed16_mem v h, Memory.read_write_self _ (Memory.wf_write _ hm _ _)]

theorem push16_of_ram {s : State} (v : Addr) (h : StackRam s) : push16 v s = .ok (s.pushed16 v) := by
  obtain ⟨h1, h2⟩ := h
  simp [push16_eq, h1, h2, writeAdmitted]

/-- The state a pop finds: the top of the stack are the two cells at `sp - 1` and `sp - 2`. -/
theorem pop16_of_ram {t : State} (h1 : t.kindAt (t.stackAddr (t.regs.sp - 1#8)) = .ram)
    (h2 : t.kindAt (t.stackAddr (t.regs.sp - 2#8)) = .ram) :
    pop16 t = .ok (fromPushed t.cfg (t.mem.read (t.stackAddr (t.regs.sp - 2#8))) (t.mem.read (t.stackAddr (t.regs.sp - 1#8))),
      t.setReg .sp (t.regs.sp - 2#8)) := by
  have hread {a : Addr} (h : t.kindAt a = .ram) : t.afterRead a = t ∧ t.readValue a = t.mem.read a := by
    simp [State.afterRead, State.readValue, h]
  simp [pop16_eq, h1, h2, readAdmitted, State.popped16, State.afterPop16, hread]

/-- The pop undoes the push in every state with the pushed registers and memory. -/
theorem pop16_after_pushed16 {s t : State} {v : Addr} (hm : s.mem.wf = true) (h : StackRam s)
    (hregs : t.regs = (s.pushed16 v).regs) (hmem : t.mem = (s.pushed16 v).mem) (hcfg : t.cfg = s.cfg) :
    pop16 t = .ok (v, t.setReg .sp s.regs.sp) := by
  have hsp : t.regs.sp = s.regs.sp + 2#8 := by simp [hregs]
  have hone : t.regs.sp - 1#8 = s.regs.sp + 1#8 := by rw [hsp]; bv_omega
  have htwo : t.regs.sp - 2#8 = s.regs.sp := by rw [hsp]; bv_omega
  have haddr (p : Byte) : t.stackAddr p = s.stackAddr p := by simp [State.stackAddr, hcfg]
  have hkind (a : Addr) : t.kindAt a = s.kindAt a := State.kindAt_congr hcfg a
  rw [pop16_of_ram, hone, htwo, haddr, haddr, hmem, hcfg, pushed16_read_first v hm h, pushed16_read_second v hm h,
    fromPushed_pushed]
  · rw [hone, haddr, hkind, h.2]
  · rw [htwo, haddr, hkind, h.1]

/-- Putting SP back restores every register. -/
theorem pushed16_setSp_regs (s : State) (v : Addr) : (s.pushed16 v).regs.set .sp s.regs.sp = s.regs := by
  rw [pushed16_regs, set_sp_set_sp]
  rfl

/-- Settles O21: the two cells keep the two bytes apart, so the pop finds them in reverse order. -/
theorem popUndoesPush : Obligations.PopUndoesPush := by
  intro s v hm h1 h2
  have h : StackRam s := ⟨h1, h2⟩
  refine ⟨_, _, push16_of_ram v h, by simp, pushed16_read_first v hm h, pushed16_read_second v hm h,
    pop16_after_pushed16 hm h rfl rfl (pushed16_cfg s v), pushed16_setSp_regs s v, rfl⟩

/-- The state in which a taken call with this operand begins its subroutine. -/
def calledAt (s : State) (b1 b2 : Byte) : State := (s.pushed16 (s.pc + 3#16)).setPc (absOperand s.cfg b1 b2)

theorem exec_jsrU_of_ram {s : State} (b1 b2 : Byte) (h : StackRam s) : exec (.jsrU b1 b2) s = .next (calledAt s b1 b2) := by
  change callIf .u b1 b2 s = _
  simp [callIf, condHolds, push16_of_ram _ h, calledAt]

/-- The return's pop looks at the registers and memory the call's push left, and finds the address pushed. -/
theorem exec_rtnU_calledAt {s : State} (b1 b2 : Byte) (hm : s.mem.wf = true) (h : StackRam s) :
    exec .rtnU (calledAt s b1 b2) = .next (((calledAt s b1 b2).setReg .sp s.regs.sp).setPc (s.pc + 3#16)) := by
  have hpop : pop16 (calledAt s b1 b2) = .ok (s.pc + 3#16, (calledAt s b1 b2).setReg .sp s.regs.sp) :=
    pop16_after_pushed16 hm h rfl rfl (pushed16_cfg s _)
  change returnIf .u _ = _
  simp [returnIf, condHolds, hpop]

/-- Settles O57: the call and the return as the push and the pop of the return address. -/
theorem callThenReturn : Obligations.CallThenReturn := by
  intro s b1 b2 hm h1 h2
  have h : StackRam s := ⟨h1, h2⟩
  refine ⟨_, _, exec_jsrU_of_ram b1 b2 h, rfl, exec_rtnU_calledAt b1 b2 hm h, rfl, pushed16_setSp_regs s _,
    pushed16_flags s _⟩

theorem dataAdmitted_psh (r : Reg) (s : State) :
    dataAdmitted (.psh r) s = writeAdmitted (s.kindAt (s.stackAddr s.regs.sp)) := by
  simp [dataAdmitted, dataReads, dataWrites]

theorem dataAdmitted_pshPair (p : Pair) (s : State) :
    dataAdmitted (.pshPair p) s =
      (writeAdmitted (s.kindAt (s.stackAddr s.regs.sp)) && writeAdmitted (s.kindAt (s.stackAddr (s.regs.sp + 1#8)))) := by
  simp [dataAdmitted, dataReads, dataWrites]

/-- Settles O58: with the high byte first, the 16-bit push is `Push8` of the high half and then of the low half. -/
theorem pairPushIsTwoPushes : Obligations.PairPushIsTwoPushes := by
  intro s t hfirst h
  obtain ⟨hadmitted, rfl⟩ := exec_next_inv h
  obtain ⟨h1, h2⟩ := Bool.and_eq_true_iff.mp ((dataAdmitted_pshPair .xhl s).symm.trans hadmitted)
  have hhigh : exec .pshXh s = .next (formNext (.psh .xh) s) := exec_of_admitted ((dataAdmitted_psh .xh s).trans h1)
  have hlow : exec .pshXl (formNext (.psh .xh) s) = .next (formNext (.psh .xl) (formNext (.psh .xh) s)) := by
    refine exec_of_admitted ((dataAdmitted_psh .xl _).trans ?_)
    simpa [formNext] using h2
  have hxh : hiByte (s.regs.getPair .xhl) = s.regs.get .xh := hiByte_joinBytes _ _
  have hxl : loByte (s.regs.getPair .xhl) = (s.regs.set .sp (s.regs.sp + 1#8)).get .xl := loByte_joinBytes _ _
  refine ⟨_, _, hhigh, hlow, ?_, ?_, ?_, ?_⟩ <;>
    simp [formNext, Instr.form, State.pushed16, State.afterWrite_mem, State.afterWrite_deviceLog, firstPushed, secondPushed,
      hfirst, sp_add_two, hxh, hxl]

end Sys2Proof.Proofs
end

section
/-! PROOF. What each instruction does (40_machine_control.md to 43_accumulator_ops.md, 47_move.md, 49_extended_16bit.md):
the next state of its form, written out. -/

namespace Sys2Proof.Proofs
open Sys2Proof.Machine

theorem exec_of_base {i : Instr} {f : Form} {s : State} (hform : i.form = f) (hmode : f.mode = .base)
    (h : dataAdmitted f s = true) : exec i s = .next (formNext f s) := by
  subst hform
  rw [exec_of_admitted h, instrNext, Instr.mode, hmode]

theorem exec_of_ext {i : Instr} {f : Form} {s : State} (hform : i.form = f) (hmode : f.mode = .ext)
    (h : dataAdmitted f s = true) : exec i s = .next ((formNext f s).setExt false) := by
  subst hform
  rw [exec_of_admitted h, instrNext, Instr.mode, hmode]

/-- The same in both modes, with the fields of `nextState`. -/
theorem exec_of_form {i : Instr} {f : Form} {s : State} (hform : i.form = f) (h : dataAdmitted f s = true) :
    exec i s = .next { nextState f s with ext := if i.mode = .ext then false else nextExt f s } := by
  subst hform
  rw [exec_of_admitted h, instrNext_eq]

/-- Settles O22: eight forms without data accesses. -/
theorem machineControlResults : Obligations.MachineControlResults := fun _ =>
  ⟨rfl, rfl, rfl, rfl, rfl, rfl, rfl, rfl⟩

/-- Settles O23: the operand bytes in the order of `ABS_HIGH_FIRST`, or the next instruction. -/
theorem jumpResult : Obligations.JumpResult := by
  intro i s k b1 b2 hform
  rw [exec_of_base hform rfl rfl, formNext]
  split <;> rfl

/-- Settles O24: a condition that does not hold leaves no data access and only the advance. -/
theorem untakenConditionalOnlyAdvances : Obligations.UntakenConditionalOnlyAdvances := by
  intro i s k b1 b2 hcond
  have hno : ¬ condHolds k s.flags = true := by simp [hcond]
  refine ⟨?_, fun hform => ?_⟩
  · rintro (hform | hform)
    · rw [exec_of_base hform rfl rfl, formNext, if_neg hno]
      rfl
    · have hadmitted : dataAdmitted (.jsr k b1 b2) s = true := dataAdmitted_of_no_access rfl (if_neg hno)
      rw [exec_of_base hform rfl hadmitted, formNext, if_neg hno]
      rfl
  · have hadmitted : dataAdmitted (.rtn k) s = true := dataAdmitted_of_no_access (if_neg hno) rfl
    rw [exec_of_base hform rfl hadmitted, formNext, if_neg hno]
    rfl

/-! The 16-bit stack operations, written out (20_memory.md R78, R79). -/

theorem pushed16_eq (s : State) (v : Addr) :
    s.pushed16 v =
      { (s.afterWrite (s.stackAddr s.regs.sp) (if s.cfg.stackHighFirst then hiByte v else loByte v)).afterWrite
          (s.stackAddr (s.regs.sp + 1#8)) (if s.cfg.stackHighFirst then loByte v else hiByte v) with
        regs := { s.regs with sp := s.regs.sp + 2#8 } } := by
  simp [State.pushed16, State.setReg, Regs.set, firstPushed, secondPushed]

theorem afterPop16_eq (s : State) :
    s.afterPop16 =
      { (s.afterRead (s.stackAddr (s.regs.sp - 1#8))).afterRead (s.stackAddr (s.regs.sp - 2#8)) with
        regs := { s.regs with sp := s.regs.sp - 2#8 } } := by
  simp [State.afterPop16, State.setReg, Regs.set]

/-- Settles O25: the push of the return address, then the jump. -/
theorem callResult : Obligations.CallResult := by
  intro i s k b1 b2 hform hcond a1 a2 ret h1 h2
  have hadmitted : dataAdmitted (.jsr k b1 b2) s = true := dataAdmitted_of_push16 rfl (if_pos hcond) h1 h2
  rw [exec_of_base hform rfl hadmitted, formNext, if_pos hcond, pushed16_eq]
  rfl

/-- Settles O26: the pop, then the jump to what came off. -/
theorem returnResult : Obligations.ReturnResult := by
  intro i s k hform hcond a1 a2 top next h1 h2
  have hadmitted : dataAdmitted (.rtn k) s = true := dataAdmitted_of_pop16 (if_pos hcond) rfl h1 h2
  rw [exec_of_base hform rfl hadmitted, formNext, if_pos hcond, afterPop16_eq]
  rfl

/-- Settles O27: the write at SP, then SP counts up. -/
theorem pushRegisterResult : Obligations.PushRegisterResult := by
  intro i s r hform h
  rw [exec_of_base hform rfl ((dataAdmitted_psh r s).trans h)]
  simp [formNext, State.setReg, State.advance, Regs.set]

theorem dataAdmitted_pop (r : Reg) (s : State) :
    dataAdmitted (.pop r) s = readAdmitted (s.kindAt (s.stackAddr (s.regs.sp - 1#8))) := by
  simp [dataAdmitted, dataReads, dataWrites]

/-- Settles O28: SP counts down before the register is written. -/
theorem popRegisterResult : Obligations.PopRegisterResult := by
  intro i s r hform h
  have hsp : s.regs.set .sp (s.regs.sp - 1#8) = { s.regs with sp := s.regs.sp - 1#8 } := rfl
  rw [exec_of_base hform rfl ((dataAdmitted_pop r s).trans h), ← hsp]
  simp [formNext, State.setReg, State.advance]

theorem addr_add_one (v : Addr) : BitVec.ofNat 16 (v.toNat + 1) = v + 1#16 := by bv_omega

theorem addr_sub_one (v : Addr) : BitVec.ofNat 16 (v.toNat + 65535) = v - 1#16 := by bv_omega

/-- Settles O29: one more and one less modulo 2^16. -/
theorem pairCountResult : Obligations.PairCountResult := by
  intro i s p
  rw [addr_add_one, addr_sub_one]
  exact ⟨fun hform => exec_of_base hform rfl rfl, fun hform => exec_of_base hform rfl rfl⟩

/-- An accumulator operation, written out with its result and carry. -/
theorem exec_of_accOp {i : Instr} {o : AccOp} (s : State) (hform : i.form = .accOp o) {r : Byte} {c : Bool}
    (hresult : accResult s.cfg.subCarryOut o s.regs.acc s.flags.c = (r, c)) :
    exec i s = .next { s with
      regs := { s.regs with acc := r }, flags := resultFlags s.flags r c, pc := s.pc + 1#16 } := by
  rw [exec_of_base hform rfl rfl, formNext, accWrite, hresult]
  rfl

theorem add8_one (a : Byte) : add8 a 0x01#8 false = (a + 1#8, a == 0xFF#8) := by
  have ha := a.isLt
  refine Prod.ext ?_ ?_
  · simp only [add8]
    bv_omega
  · rw [beq_eq_decide]
    simp only [add8, decide_eq_decide, ← BitVec.toNat_inj, BitVec.toNat_ofNat, Bool.toNat_false]
    omega

theorem sub8_one (o : SubCarryOut) (a : Byte) :
    sub8 o a 0x01#8 false = (a - 1#8, (a == 0#8) == (o == .borrow)) := by
  refine Prod.ext ?_ ?_
  · have ha := a.isLt
    have hdiff := sub8_toNat o a 1#8 false
    apply BitVec.eq_of_toNat_eq
    simp only [BitVec.toNat_sub, BitVec.toNat_ofNat, Bool.toNat_false] at hdiff ⊢
    omega
  · rw [sub8_carry]
    congr 1
    rw [beq_eq_decide, decide_eq_decide, ← BitVec.toNat_inj]
    simp only [BitVec.toNat_ofNat, Bool.toNat_false]
    omega

/-- Settles O30: adding and subtracting one, with the carry where the byte wraps. -/
theorem accumulatorCountResult : Obligations.AccumulatorCountResult := by
  intro s
  rw [exec_of_accOp (o := .inc) s rfl (add8_one _), exec_of_accOp (o := .dec) s rfl (sub8_one _ _), resultFlags_eq,
    resultFlags_eq]
  exact ⟨rfl, rfl⟩

theorem toNat_bool_inj {b c : Bool} (h : b.toNat = c.toNat) : b = c := by
  cases b <;> cases c <;> trivial

/-- Byte and carry are fixed by the nine bits they make. -/
theorem rol8_eq_of_toNat {a r : Byte} {cin c : Bool} (h : 2 * a.toNat + cin.toNat = 256 * c.toNat + r.toNat) :
    rol8 a cin = (r, c) := by
  have hrol := rol8_toNat a cin
  have hr := r.isLt
  have hr' := (rol8 a cin).1.isLt
  have hbyte : (rol8 a cin).1.toNat = r.toNat := by omega
  have hcarry : (rol8 a cin).2.toNat = c.toNat := by omega
  exact Prod.ext (BitVec.eq_of_toNat_eq hbyte) (toNat_bool_inj hcarry)

theorem ror8_eq_of_toNat {a r : Byte} {cin c : Bool} (h : r.toNat = a.toNat / 2 + 128 * cin.toNat)
    (hc : c = a.getLsbD 0) : ror8 a cin = (r, c) :=
  Prod.ext (BitVec.eq_of_toNat_eq ((ror8_toNat a cin).trans h.symm)) hc.symm

/-- Settles O31: the rotates as numbers; a shift is the rotate of a clear carry. -/
theorem shiftResult : Obligations.ShiftResult := by
  intro s c r
  refine ⟨fun hr hc => ?ror, fun h => ?rol, fun hr hc => ?rsh, fun h => ?lsh⟩
  case ror => exact exec_of_accOp (o := .ror) s rfl (ror8_eq_of_toNat hr hc)
  case rol => exact exec_of_accOp (o := .rol) s rfl (rol8_eq_of_toNat h)
  case rsh => exact exec_of_accOp (o := .rsh) s rfl (ror8_eq_of_toNat (cin := false) hr hc)
  case lsh => exact exec_of_accOp (o := .lsh) s rfl (rol8_eq_of_toNat (cin := false) h)

theorem not_beq_zero (a : Byte) : (~~~a == 0#8) = (a == 0xFF#8) := by
  rw [beq_eq_decide, beq_eq_decide, decide_eq_decide]
  constructor
  · intro h
    rw [← BitVec.not_not (b := a), h]
    rfl
  · rintro rfl
    rfl

/-- Settles O32: the exclusive or with all ones is the complement. -/
theorem notResult : Obligations.NotResult := by
  intro s
  have hnot : s.regs.acc ^^^ 0xFF#8 = ~~~s.regs.acc := BitVec.xor_allOnes
  have hresult : accResult s.cfg.subCarryOut .not s.regs.acc s.flags.c =
      (~~~s.regs.acc, Config.logicCarry .not s.regs.acc 0xFF#8 s.flags.c) := by rw [accResult, hnot]
  have hbit : (~~~s.regs.acc).getLsbD 7 = !s.regs.acc.getLsbD 7 := by simp
  rw [exec_of_accOp (o := .not) s rfl hresult, resultFlags_eq, hbit, not_beq_zero]

/-- Settles O38: a register or a pair written with another. -/
theorem moveResult : Obligations.MoveResult :=
  ⟨fun _ _ _ _ hform => exec_of_base hform rfl rfl, fun _ _ _ _ hform => exec_of_ext hform rfl rfl⟩

/-- Settles O39: the push of the pair or of the next address, then the advance. -/
theorem pushSixteenResult : Obligations.PushSixteenResult := by
  rintro i s v (⟨p, hform, rfl⟩ | ⟨hform, rfl⟩) a1 a2 h1 h2
  · have hadmitted : dataAdmitted (.pshPair p) s = true := dataAdmitted_of_push16 rfl rfl h1 h2
    rw [exec_of_ext hform rfl hadmitted, formNext, pushed16_eq]
    simp [State.advance, State.setExt, a1, a2]
  · have hadmitted : dataAdmitted .pshPc s = true := dataAdmitted_of_push16 rfl rfl h1 h2
    rw [exec_of_ext hform rfl hadmitted, formNext, pushed16_eq]
    simp [State.advance, State.setExt, a1, a2]

/-- Settles O40: the pop into the pair or into `pc`. -/
theorem popSixteenResult : Obligations.PopSixteenResult := by
  intro i s a1 a2 top next v h1 h2
  have hv : s.popped16 = v := rfl
  refine ⟨fun p hform => ?_, fun hform => ?_⟩
  · have hadmitted : dataAdmitted (.popPair p) s = true := dataAdmitted_of_pop16 rfl rfl h1 h2
    rw [exec_of_ext hform rfl hadmitted, formNext, afterPop16_eq, hv]
    simp [State.advance, State.setExt, State.setPair, a1, a2]
  · have hadmitted : dataAdmitted .popPc s = true := dataAdmitted_of_pop16 rfl rfl h1 h2
    rw [exec_of_ext hform rfl hadmitted, formNext, afterPop16_eq]
    rfl

end Sys2Proof.Proofs
end

section
/-! PROOF. Arithmetic, logic, loads and stores in every operand form (44_arithmetic.md to 46_load_store.md,
48_extended_alu_load_store.md). -/

namespace Sys2Proof.Proofs
open Sys2Proof.Machine

theorem dataAdmitted_alu (op : AluOp) (src : Source) (s : State) : dataAdmitted (.alu op src) s = s.sourceAdmitted src := by
  cases src <;> simp [dataAdmitted, dataReads, dataWrites, sourceReads, State.sourceAdmitted]

theorem dataAdmitted_ld (r : Reg) (src : Source) (s : State) : dataAdmitted (.ld r src) s = s.sourceAdmitted src := by
  cases src <;> simp [dataAdmitted, dataReads, dataWrites, sourceReads, State.sourceAdmitted]

theorem dataAdmitted_str (r : Reg) (p : Place) (s : State) :
    dataAdmitted (.str r p) s = writeAdmitted (s.kindAt (effAddr p s)) := by
  simp [dataAdmitted, dataReads, dataWrites]

theorem nextPc_of_length {i : Instr} {f : Form} (s : State) (hform : i.form = f) (hjump : jumpTarget f s = none) :
    nextPc f s = s.pc + BitVec.ofNat 16 i.length := by
  subst hform
  rw [nextPc, hjump]
  rfl

/-- An operation of block 1 written out with its result and carry. -/
theorem exec_of_alu {i : Instr} {op : AluOp} {src : Source} {s : State} (hform : i.form = .alu op src)
    (h : s.sourceAdmitted src = true) {r : Byte} {c : Bool}
    (hresult : aluResult s.cfg.subCarryOut op s.regs.acc (s.sourceValue src) s.flags.c = (r, c)) :
    exec i s = .next { s.afterSource src with
      regs := { s.regs with acc := if op = .cmp then s.regs.acc else r }
      flags := { c := c, n := r.getLsbD 7, z := r == 0#8, i := s.flags.i }
      pc := s.pc + BitVec.ofNat 16 i.length
      ext := if i.mode = .ext then false else s.ext } := by
  rw [exec_of_form hform ((dataAdmitted_alu op src s).trans h), nextState, nextPc_of_length s hform rfl]
  simp [nextRegs, nextFlags, nextExt, nextRun, dataReads, dataStores, hresult, aluAcc_eq, resultFlags_eq, Regs.set]

/-- Settles O33: the sum of `Add8` with the carry in that the operation takes. -/
theorem addResult : Obligations.AddResult := by
  intro i s op src hform hop h t
  have hresult : aluResult s.cfg.subCarryOut op s.regs.acc (s.sourceValue src) s.flags.c =
      (BitVec.ofNat 8 t, decide (255 < t)) := by
    rcases hop with rfl | rfl <;> rfl
  have hkeeps : op ≠ .cmp := by rcases hop with rfl | rfl <;> exact nofun
  have hzero : (t % 256 == 0) = (BitVec.ofNat 8 t == 0#8) := by
    rw [beq_eq_decide, beq_eq_decide, decide_eq_decide, ← BitVec.toNat_inj]
    simp
  rw [exec_of_alu hform h hresult, if_neg hkeeps, hzero]

/-- Settles O34: the difference of `Sub8` with the borrow in that the operation takes. -/
theorem subtractResult : Obligations.SubtractResult := by
  intro i s op src hform hop h t
  have hresult : aluResult s.cfg.subCarryOut op s.regs.acc (s.sourceValue src) s.flags.c =
      (BitVec.ofInt 8 t, decide (t < 0) == (s.cfg.subCarryOut == .borrow)) := by
    have hsub (bin : Bool) (ht : t = (s.regs.acc.toNat : Int) - (s.sourceValue src).toNat - bin.toNat) :
        sub8 s.cfg.subCarryOut s.regs.acc (s.sourceValue src) bin =
          (BitVec.ofInt 8 t, decide (t < 0) == (s.cfg.subCarryOut == .borrow)) := by
      rw [ht, ← sub8_carry]
      rfl
    rcases hop with rfl | rfl | rfl
    · exact hsub false rfl
    · exact hsub s.flags.c rfl
    · exact hsub false rfl
  exact exec_of_alu hform h hresult

/-- Settles O35: the exclusive or of two bytes written with and, or and complement. -/
theorem logicResult : Obligations.LogicResult := by
  intro i s op lo f src hform hop h b
  have hresult : aluResult s.cfg.subCarryOut op s.regs.acc b s.flags.c =
      (f s.regs.acc b, Config.logicCarry lo s.regs.acc b s.flags.c) := by
    rcases hop with ⟨rfl, rfl, rfl⟩ | ⟨rfl, rfl, rfl⟩ | ⟨rfl, rfl, rfl⟩
    · rfl
    · rfl
    · rw [aluResult, or_and_not_and_eq_xor]
  have hkeeps : op ≠ .cmp := by rcases hop with ⟨rfl, -⟩ | ⟨rfl, -⟩ | ⟨rfl, -⟩ <;> exact nofun
  rw [exec_of_alu hform h hresult, if_neg hkeeps]

/-- Settles O36: the register receives the operand byte; the rest is the read's. -/
theorem loadResult : Obligations.LoadResult := by
  intro i s r src hform h
  rw [exec_of_form hform ((dataAdmitted_ld r src s).trans h), nextState, nextPc_of_length s hform rfl]
  simp [nextRegs, nextFlags, nextExt, nextRun, dataReads, dataStores]

/-- Settles O37: the cell receives the register; the rest is the write's. -/
theorem storeResult : Obligations.StoreResult := by
  intro i s r p hform h
  rw [exec_of_form hform ((dataAdmitted_str r p s).trans h), nextState, nextPc_of_length s hform rfl]
  simp [nextRegs, nextFlags, nextExt, nextRun, dataReads, dataStores]

end Sys2Proof.Proofs
end

section
/-! PROOF. One instruction run twice, the second time under other flags and another `SUB_CARRY_OUT` (10_state.md R42,
R45): what the conditions and the results do not look at cannot tell the runs apart. -/

namespace Sys2Proof.Proofs
open Sys2Proof.Machine

/-- The same state under other flags and another `SUB_CARRY_OUT`. -/
def State.reconf (s : State) (F : Flags) (o : SubCarryOut) : State :=
  { s with flags := F, cfg := { s.cfg with subCarryOut := o } }

/-- The condition a form tests. -/
def formCond (f : Form) : Option Cond :=
  match f with
  | .jmp k _ _ => some k
  | .jsr k _ _ => some k
  | .rtn k => some k
  | _ => none

/-- The two runs agree on the form's condition. -/
def SameCond (f : Form) (F G : Flags) : Prop := ∀ k, formCond f = some k → condHolds k F = condHolds k G

section
variable {s : State} {F : Flags} {o : SubCarryOut}

theorem afterRead_reconf (a : Addr) : (State.reconf s F o).afterRead a = State.reconf (s.afterRead a) F o := by
  have hkind : (State.reconf s F o).kindAt a = s.kindAt a := rfl
  unfold State.afterRead
  rw [hkind]
  split <;> rfl

theorem afterWrite_reconf (a : Addr) (v : Byte) :
    (State.reconf s F o).afterWrite a v = State.reconf (s.afterWrite a v) F o := by
  have hkind : (State.reconf s F o).kindAt a = s.kindAt a := rfl
  unfold State.afterWrite
  rw [hkind]
  split <;> rfl

theorem afterReads_reconf (as : List Addr) :
    State.afterReads (State.reconf s F o) as = State.reconf (State.afterReads s as) F o := by
  induction as generalizing s with
  | nil => rfl
  | cons a as ih => rw [afterReads_cons, afterRead_reconf, ih, afterReads_cons]

theorem afterStores_reconf (cs : List (Addr × Byte)) :
    State.afterStores (State.reconf s F o) cs = State.reconf (State.afterStores s cs) F o := by
  induction cs generalizing s with
  | nil => rfl
  | cons c cs ih => rw [afterStores_cons, afterWrite_reconf, ih, afterStores_cons]

theorem popped16_reconf : (State.reconf s F o).popped16 = s.popped16 := by
  unfold State.popped16
  rw [afterRead_reconf]
  rfl

theorem dataReads_reconf {f : Form} (h : SameCond f F s.flags) : dataReads f (State.reconf s F o) = dataReads f s := by
  cases f with
  | rtn k =>
    have hk : condHolds k (State.reconf s F o).flags = condHolds k s.flags := h k rfl
    simp only [dataReads, hk]
    rfl
  | alu op src | ld r src => rcases src with (_ | _ | _) | _ | _ <;> rfl
  | _ => rfl

theorem dataStores_reconf {f : Form} (h : SameCond f F s.flags) : dataStores f (State.reconf s F o) = dataStores f s := by
  cases f with
  | jsr k b1 b2 =>
    have hk : condHolds k (State.reconf s F o).flags = condHolds k s.flags := h k rfl
    simp only [dataStores, hk]
    rfl
  | str r p => cases p <;> rfl
  | _ => rfl

theorem accessFault_reconf {f : Form} (h : SameCond f F s.flags) :
    accessFault f (State.reconf s F o) = accessFault f s := by
  rw [accessFault, accessFault, dataReads_reconf h, ← dataStores_fst, ← dataStores_fst, dataStores_reconf h]
  rfl

theorem nextPc_reconf {f : Form} (h : SameCond f F s.flags) : nextPc f (State.reconf s F o) = nextPc f s := by
  have hjump : jumpTarget f (State.reconf s F o) = jumpTarget f s := by
    cases f with
    | jmp k b1 b2 | jsr k b1 b2 =>
      have hk : condHolds k (State.reconf s F o).flags = condHolds k s.flags := h k rfl
      simp only [jumpTarget, hk]
      rfl
    | rtn k =>
      have hk : condHolds k (State.reconf s F o).flags = condHolds k s.flags := h k rfl
      simp only [jumpTarget, hk, popped16_reconf]
    | popPc => simp only [jumpTarget, popped16_reconf]
    | _ => rfl
  rw [nextPc, hjump]
  rfl

/-- The result byte does not depend on the sense of the borrow. -/
theorem aluResult_fst (o' : SubCarryOut) (op : AluOp) (a b : Byte) (c : Bool) :
    (aluResult o op a b c).1 = (aluResult o' op a b c).1 := by
  cases op <;> rfl

theorem accResult_fst (o' : SubCarryOut) (op : AccOp) (a : Byte) (c : Bool) :
    (accResult o op a c).1 = (accResult o' op a c).1 := by
  cases op <;> rfl

/-- The second run's old C leads to the same result. -/
def SameCarry (f : Form) (F G : Flags) : Prop :=
  match f with
  | .alu op _ => ∀ o a b, aluResult o op a b F.c = aluResult o op a b G.c
  | .accOp op => ∀ o a, accResult o op a F.c = accResult o op a G.c
  | _ => True

theorem sourceValue_reconf (src : Source) : (State.reconf s F o).sourceValue src = s.sourceValue src := by
  rcases src with (_ | _ | _) | _ | _ <;> rfl

theorem nextRegs_reconf {f : Form} (h : SameCond f F s.flags) (hcarry : SameCarry f F s.flags) :
    nextRegs f (State.reconf s F o) = nextRegs f s := by
  cases f with
  | jsr k | rtn k =>
    have hk : condHolds k (State.reconf s F o).flags = condHolds k s.flags := h k rfl
    simp only [nextRegs, hk]
    rfl
  | alu op src =>
    have hresult : (aluResult o op s.regs.acc (s.sourceValue src) F.c).1 =
        (aluResult s.cfg.subCarryOut op s.regs.acc (s.sourceValue src) s.flags.c).1 := by
      rw [hcarry o s.regs.acc (s.sourceValue src), aluResult_fst]
    simp only [nextRegs, sourceValue_reconf, ← hresult]
    rfl
  | accOp op =>
    have hresult : (accResult o op s.regs.acc F.c).1 = (accResult s.cfg.subCarryOut op s.regs.acc s.flags.c).1 := by
      rw [hcarry o s.regs.acc, accResult_fst]
    simp only [nextRegs, ← hresult]
    rfl
  | ld r src =>
    simp only [nextRegs, sourceValue_reconf]
    rfl
  | popPair p =>
    simp only [nextRegs, popped16_reconf]
    rfl
  | _ => rfl

theorem nextState_reconf {f : Form} (h : SameCond f F s.flags) (hcarry : SameCarry f F s.flags) :
    nextState f (State.reconf s F o) = State.reconf (nextState f s) (nextFlags f (State.reconf s F o)) o := by
  have hext : nextExt f (State.reconf s F o) = nextExt f s := by
    rcases f with (_ | _ | _ | _ | _ | _ | _ | _) | _ <;> rfl
  have hrun : nextRun f (State.reconf s F o) = nextRun f s := by
    rcases f with (_ | _ | _ | _ | _ | _ | _ | _) | _ <;> rfl
  rw [nextState, nextRegs_reconf h hcarry, nextPc_reconf h, dataReads_reconf h, dataStores_reconf h, afterReads_reconf,
    afterStores_reconf, hext, hrun]
  rfl

/-- The second run stops where the first does, and ends in the same state but for the flags and `SUB_CARRY_OUT`. -/
theorem exec_reconf {i : Instr} (h : SameCond i.form F s.flags) (hcarry : SameCarry i.form F s.flags) :
    exec i (State.reconf s F o) =
      stopOr (accessFault i.form s) (State.reconf (instrNext i s) (nextFlags i.form (State.reconf s F o)) o) := by
  rw [exec_eq_stopOr, accessFault_reconf h, instrNext, instrNext, formNext_eq, formNext_eq, nextState_reconf h hcarry]
  cases i.mode <;> rfl

end

/-! The flags of the second run. -/

theorem nextFlags_alu_reconf (op : AluOp) (src : Source) (s : State) (F : Flags) (o : SubCarryOut) :
    nextFlags (.alu op src) (State.reconf s F o) =
      resultFlags F (aluResult o op s.regs.acc (s.sourceValue src) F.c).1
        (aluResult o op s.regs.acc (s.sourceValue src) F.c).2 := by
  simp only [nextFlags, sourceValue_reconf]
  rfl

theorem nextFlags_accOp_reconf (op : AccOp) (s : State) (F : Flags) (o : SubCarryOut) :
    nextFlags (.accOp op) (State.reconf s F o) =
      resultFlags F (accResult o op s.regs.acc F.c).1 (accResult o op s.regs.acc F.c).2 := rfl

/-! Another `SUB_CARRY_OUT`. -/

theorem sameCond_refl (f : Form) (F : Flags) : SameCond f F F := fun _ _ => rfl

theorem sameCarry_of_c_eq (f : Form) {F G : Flags} (h : F.c = G.c) : SameCarry f F G := by
  cases f with
  | alu => exact fun _ _ _ => by rw [h]
  | accOp => exact fun _ _ => by rw [h]
  | _ => trivial

/-- C is the only flag the sense of the borrow can reach, and only through a result. -/
theorem nextFlags_reconf_subCarryOut (f : Form) (s : State) (o : SubCarryOut) :
    ∃ c, nextFlags f (State.reconf s s.flags o) = { nextFlags f s with c := c } ∧
      (writesResultFlags f = false → c = (nextFlags f s).c) := by
  cases f with
  | alu op src =>
    rw [nextFlags_alu_reconf, aluResult_fst s.cfg.subCarryOut]
    exact ⟨_, rfl, nofun⟩
  | accOp op =>
    rw [nextFlags_accOp_reconf, accResult_fst s.cfg.subCarryOut]
    exact ⟨_, rfl, nofun⟩
  | _ => exact ⟨_, rfl, fun _ => rfl⟩

/-- Settles O47: the two runs agree but for the flags (`exec_reconf`), and the flags but for C. -/
theorem onlyCarryDependsOnSubCarryOut : Obligations.OnlyCarryDependsOnSubCarryOut := by
  intro i s o s'
  have hexec : exec i s' = _ := exec_reconf (s := s) (o := o) (sameCond_refl _ _) (sameCarry_of_c_eq _ rfl)
  rw [hexec, exec_eq_stopOr i s]
  cases accessFault i.form s with
  | some e => rfl
  | none =>
    obtain ⟨c, hflags, hkeeps⟩ := nextFlags_reconf_subCarryOut i.form s o
    rw [hflags, instrNext_eq]
    exact ⟨c, rfl, hkeeps⟩

/-! Another value of one flag. -/

theorem condHolds_set {k : Cond} {x : FlagName} (h : condReads k x = false) (F : Flags) (b : Bool) :
    condHolds k (F.set x b) = condHolds k F := by
  cases k <;> cases x <;> cases h <;> rfl

theorem sameCond_set {f : Form} {x : FlagName} (h : readsFlag f x = false) (F : Flags) (b : Bool) :
    SameCond f (F.set x b) F := by
  intro k hk
  cases f with
  | jmp | jsr | rtn =>
    cases hk
    exact condHolds_set h F b
  | _ => cases hk

/-- A form that does not read the flag takes no carry in, or the flag is not C. -/
theorem sameCarry_set {f : Form} {x : FlagName} (h : readsFlag f x = false) (F : Flags) (b : Bool) :
    SameCarry f (F.set x b) F := by
  cases x with
  | c =>
    cases f with
    | alu op src => cases op <;> cases h <;> exact fun _ _ _ => rfl
    | accOp op => cases op <;> cases h <;> exact fun _ _ => rfl
    | _ => trivial
  | n | z | i => exact sameCarry_of_c_eq f rfl

theorem controlFlags_set (k : Control) (F : Flags) (x : FlagName) (b : Bool) :
    ∃ c, controlFlags k (F.set x b) = (controlFlags k F).set x c := by
  cases k <;> cases x <;> exact ⟨_, rfl⟩

theorem resultFlags_set (F : Flags) (r : Byte) (c : Bool) (x : FlagName) (b : Bool) :
    ∃ d, resultFlags (F.set x b) r c = (resultFlags F r c).set x d := by
  cases x <;> exact ⟨_, rfl⟩

theorem nextFlags_reconf_set {f : Form} {s : State} {x : FlagName} {b : Bool} (hcarry : SameCarry f (s.flags.set x b) s.flags) :
    ∃ c, nextFlags f (State.reconf s (s.flags.set x b) s.cfg.subCarryOut) = (nextFlags f s).set x c := by
  cases f with
  | control k => exact controlFlags_set k s.flags x b
  | alu op src =>
    rw [nextFlags_alu_reconf, hcarry]
    exact resultFlags_set s.flags _ _ x b
  | accOp op =>
    rw [nextFlags_accOp_reconf, hcarry]
    exact resultFlags_set s.flags _ _ x b
  | _ => exact ⟨b, rfl⟩

/-- Settles O46: the two runs agree but for the flags (`exec_reconf`), and the flags but for the one that was changed. -/
theorem flagReaders : Obligations.FlagReaders := by
  intro i s x b h
  have hcarry := sameCarry_set h s.flags b
  have hexec : exec i (s.setFlags (s.flags.set x b)) = _ :=
    exec_reconf (s := s) (o := s.cfg.subCarryOut) (sameCond_set h s.flags b) hcarry
  rw [hexec, exec_eq_stopOr i s]
  cases accessFault i.form s with
  | some e => rfl
  | none =>
    obtain ⟨c, hflags⟩ := nextFlags_reconf_set hcarry
    rw [hflags, instrNext_eq]
    exact ⟨c, rfl⟩

end Sys2Proof.Proofs
end
